-- ==== Sys2Proof/Word.lean ====
section
/-! DEFINITION. The word types of the LH5801 (00_scope.md R5): bytes, 16-bit addresses, the 9-bit timer. -/

namespace Sys2Proof

/-- One byte: the data width of the LH5801. -/
abbrev Byte := BitVec 8

/-- A 16-bit address or register pair (P, S, X, Y, U). -/
abbrev Addr := BitVec 16

/-- The contents of the timer counter TM. -/
abbrev TimerWord := BitVec 9

end Sys2Proof
end

