-- ==== Sys2Proof/Syntax.lean ====
section
/-! DEFINITION. The instructions of the LH5801: one constructor for each of the 310 encodings (30_encoding.md R74, R68,
R69), in the order of the manual's 82 mnemonics, those with operand bytes first and those without after them (Lean's
compiler wants the constructors that carry data among the first 244). In a name, `IndX` is the operand `(X)` in ME0 and `Ind1X` is `#(X)` in
ME1; `Abs` is `(ab)` and `Abs1` is `#(ab)`; `Fwd` and `Back` are the branch forms `+i` and `-i`. The operand bytes are
those of the encoding in fetch order: `a` and `b` the high and low byte of an address, `i` an 8-bit immediate, branch
distance or vector offset, `i j` a 16-bit immediate with the high byte first (R65). -/

namespace Sys2Proof

inductive Instr where
  -- Add, subtract and logical instructions (40_arith_logic.md)
  | adcAbs (a b : Byte)
  | adcAbs1 (a b : Byte)
  | adiIndX (i : Byte)
  | adiIndY (i : Byte)
  | adiIndU (i : Byte)
  | adiA (i : Byte)
  | adiAbs (a b i : Byte)
  | adiInd1X (i : Byte)
  | adiInd1Y (i : Byte)
  | adiInd1U (i : Byte)
  | adiAbs1 (a b i : Byte)
  | sbcAbs (a b : Byte)
  | sbcAbs1 (a b : Byte)
  | sbiA (i : Byte)
  | andAbs (a b : Byte)
  | andAbs1 (a b : Byte)
  | aniIndX (i : Byte)
  | aniIndY (i : Byte)
  | aniIndU (i : Byte)
  | aniA (i : Byte)
  | aniAbs (a b i : Byte)
  | aniInd1X (i : Byte)
  | aniInd1Y (i : Byte)
  | aniInd1U (i : Byte)
  | aniAbs1 (a b i : Byte)
  | oraAbs (a b : Byte)
  | oraAbs1 (a b : Byte)
  | oriIndX (i : Byte)
  | oriIndY (i : Byte)
  | oriIndU (i : Byte)
  | oriA (i : Byte)
  | oriAbs (a b i : Byte)
  | oriInd1X (i : Byte)
  | oriInd1Y (i : Byte)
  | oriInd1U (i : Byte)
  | oriAbs1 (a b i : Byte)
  | eorAbs (a b : Byte)
  | eorAbs1 (a b : Byte)
  | eai (i : Byte)
  -- Compare and bit test (41_compare_bittest.md)
  | cpaAbs (a b : Byte)
  | cpaAbs1 (a b : Byte)
  | cpiXh (i : Byte)
  | cpiXl (i : Byte)
  | cpiYh (i : Byte)
  | cpiYl (i : Byte)
  | cpiUh (i : Byte)
  | cpiUl (i : Byte)
  | cpiA (i : Byte)
  | bitAbs (a b : Byte)
  | bitAbs1 (a b : Byte)
  | biiIndX (i : Byte)
  | biiIndY (i : Byte)
  | biiIndU (i : Byte)
  | biiA (i : Byte)
  | biiAbs (a b i : Byte)
  | biiInd1X (i : Byte)
  | biiInd1Y (i : Byte)
  | biiInd1U (i : Byte)
  | biiAbs1 (a b i : Byte)
  -- Transfer (42_transfer.md)
  | ldaAbs (a b : Byte)
  | ldaAbs1 (a b : Byte)
  | ldiXh (i : Byte)
  | ldiXl (i : Byte)
  | ldiYh (i : Byte)
  | ldiYl (i : Byte)
  | ldiUh (i : Byte)
  | ldiUl (i : Byte)
  | ldiS (i j : Byte)
  | ldiA (i : Byte)
  | staAbs (a b : Byte)
  | staAbs1 (a b : Byte)
  -- Jumps (46_jump.md)
  | jmp (i j : Byte)
  | bchFwd (i : Byte)
  | bchBack (i : Byte)
  | bcsFwd (i : Byte)
  | bcsBack (i : Byte)
  | bcrFwd (i : Byte)
  | bcrBack (i : Byte)
  | bhsFwd (i : Byte)
  | bhsBack (i : Byte)
  | bhrFwd (i : Byte)
  | bhrBack (i : Byte)
  | bzsFwd (i : Byte)
  | bzsBack (i : Byte)
  | bzrFwd (i : Byte)
  | bzrBack (i : Byte)
  | bvsFwd (i : Byte)
  | bvsBack (i : Byte)
  | bvrFwd (i : Byte)
  | bvrBack (i : Byte)
  | lop (i : Byte)
  -- Subroutine calls (47_subroutine.md)
  | sjp (i j : Byte)
  | vmj (i : Byte)
  | vcs (i : Byte)
  | vcr (i : Byte)
  | vhs (i : Byte)
  | vhr (i : Byte)
  | vzs (i : Byte)
  | vzr (i : Byte)
  | vvs (i : Byte)
  -- Add, subtract and logical instructions, no operand bytes (40_arith_logic.md)
  | adcXl
  | adcIndX
  | adcYl
  | adcIndY
  | adcUl
  | adcIndU
  | adcXh
  | adcYh
  | adcUh
  | adcInd1X
  | adcInd1Y
  | adcInd1U
  | dcaIndX
  | dcaIndY
  | dcaIndU
  | dcaInd1X
  | dcaInd1Y
  | dcaInd1U
  | adrX
  | adrY
  | adrU
  | sbcXl
  | sbcIndX
  | sbcYl
  | sbcIndY
  | sbcUl
  | sbcIndU
  | sbcXh
  | sbcYh
  | sbcUh
  | sbcInd1X
  | sbcInd1Y
  | sbcInd1U
  | dcsIndX
  | dcsIndY
  | dcsIndU
  | dcsInd1X
  | dcsInd1Y
  | dcsInd1U
  | andIndX
  | andIndY
  | andIndU
  | andInd1X
  | andInd1Y
  | andInd1U
  | oraIndX
  | oraIndY
  | oraIndU
  | oraInd1X
  | oraInd1Y
  | oraInd1U
  | eorIndX
  | eorIndY
  | eorIndU
  | eorInd1X
  | eorInd1Y
  | eorInd1U
  | incXl
  | incX
  | incYl
  | incY
  | incUl
  | incU
  | incA
  | incXh
  | incYh
  | incUh
  | decXl
  | decX
  | decYl
  | decY
  | decUl
  | decU
  | decA
  | decXh
  | decYh
  | decUh
  -- Compare and bit test, no operand bytes (41_compare_bittest.md)
  | cpaXl
  | cpaIndX
  | cpaYl
  | cpaIndY
  | cpaUl
  | cpaIndU
  | cpaXh
  | cpaYh
  | cpaUh
  | cpaInd1X
  | cpaInd1Y
  | cpaInd1U
  | bitIndX
  | bitIndY
  | bitIndU
  | bitInd1X
  | bitInd1Y
  | bitInd1U
  -- Transfer, no operand bytes (42_transfer.md)
  | ldaXl
  | ldaIndX
  | ldaYl
  | ldaIndY
  | ldaUl
  | ldaIndU
  | ldaXh
  | ldaYh
  | ldaUh
  | ldaInd1X
  | ldaInd1Y
  | ldaInd1U
  | ldeX
  | ldeY
  | ldeU
  | linX
  | linY
  | linU
  | ldxX
  | ldxY
  | ldxU
  | ldxS
  | ldxP
  | staXh
  | staXl
  | staIndX
  | staYh
  | staYl
  | staIndY
  | staUh
  | staUl
  | staIndU
  | staInd1X
  | staInd1Y
  | staInd1U
  | sdeX
  | sdeY
  | sdeU
  | sinX
  | sinY
  | sinU
  | stxX
  | stxS
  | stxY
  | stxP
  | stxU
  | pshX
  | pshY
  | pshU
  | pshA
  | popX
  | popY
  | popU
  | popA
  | att
  | tta
  -- Block transfer and search, no operand bytes (43_block.md)
  | tin
  | cin
  -- Rotate and shift, no operand bytes (44_rotate_shift.md)
  | rol
  | ror
  | shl
  | shr
  | drlIndX
  | drlInd1X
  | drrIndX
  | drrInd1X
  | aex
  -- CPU control, no operand bytes (45_cpu_control.md)
  | secC
  | recC
  | cdv
  | atp
  | spu
  | rpu
  | spv
  | rpv
  | sdp
  | rdp
  | ita
  | sie
  | rie
  | am0
  | am1
  | nop
  | hlt
  | off
  -- Subroutine calls, no operand bytes (47_subroutine.md)
  | vejC0
  | vejC2
  | vejC4
  | vejC6
  | vejC8
  | vejCA
  | vejCC
  | vejCE
  | vejD0
  | vejD2
  | vejD4
  | vejD6
  | vejD8
  | vejDA
  | vejDC
  | vejDE
  | vejE0
  | vejE2
  | vejE4
  | vejE6
  | vejE8
  | vejEA
  | vejEC
  | vejEE
  | vejF0
  | vejF2
  | vejF4
  | vejF6
  -- Returns, no operand bytes (48_return.md)
  | rtn
  | rti
deriving DecidableEq, Repr

end Sys2Proof
end

