-- ==== Sys2Proof/Decode.lean ====
section
/-! DEFINITION. Decoding (30_encoding.md R60 to R76) and encoding, both total, both written from the opcode maps R68 and
R69, and the reading of a word of spec/opcode_table.json. -/

namespace Sys2Proof

/-- Why a list of bytes is no instruction: an opcode byte the tables do not list (R70), on the first or the second page,
or too few bytes. -/
inductive DecodeError where
  | illegalOpcode (secondPage : Bool) (op : Byte)
  | truncated
deriving DecidableEq, Repr

/-- How many operand bytes follow an opcode byte, by R75's list: on the first page, then on the page after FDH. -/
def operandCount (second : Bool) (op : Byte) : Nat :=
  let n := op.toNat
  if n ∈ [0xE9, 0xEB, 0xED, 0xEF] then 3
  else if n ∈ [0xA1, 0xA3, 0xA5, 0xA7, 0xA9, 0xAB, 0xAD, 0xAE, 0xAF] then 2
  else if second then
    (if n ∈ [0x49, 0x4B, 0x4D, 0x4F, 0x59, 0x5B, 0x5D, 0x5F, 0x69, 0x6B, 0x6D, 0x6F] then 1 else 0)
  else if n ∈ [0xAA, 0xBA, 0xBE] then 2
  else if 0x48 ≤ n && n ≤ 0x4F || 0x58 ≤ n && n ≤ 0x5F || 0x68 ≤ n && n ≤ 0x6F then 1
  else if 0x81 ≤ n && n ≤ 0x9F && n % 2 == 1 then 1
  else if n ∈ [0x88, 0x8E, 0x9E] then 1
  else if n ∈ [0xB1, 0xB3, 0xB5, 0xB7, 0xB9, 0xBB, 0xBD, 0xBF] then 1
  else if n ∈ [0xC1, 0xC3, 0xC5, 0xC7, 0xC9, 0xCB, 0xCD, 0xCF] then 1
  else 0

/-- The length R75 gives an instruction that begins with these bytes. -/
def instrLength : List Byte → Nat
  | [] => 0
  | b0 :: rest =>
    if b0 = 0xFD#8 then 2 + operandCount true (rest.headD 0#8) else 1 + operandCount false b0

/-- The first page (30_encoding.md R68): the instruction of an opcode byte and its operand bytes in fetch order. -/
def firstPage (op : Nat) (i j k : Byte) : Option Instr :=
  match op with
  | 0x00 => some .sbcXl
  | 0x01 => some .sbcIndX
  | 0x02 => some .adcXl
  | 0x03 => some .adcIndX
  | 0x04 => some .ldaXl
  | 0x05 => some .ldaIndX
  | 0x06 => some .cpaXl
  | 0x07 => some .cpaIndX
  | 0x08 => some .staXh
  | 0x09 => some .andIndX
  | 0x0A => some .staXl
  | 0x0B => some .oraIndX
  | 0x0C => some .dcsIndX
  | 0x0D => some .eorIndX
  | 0x0E => some .staIndX
  | 0x0F => some .bitIndX
  | 0x10 => some .sbcYl
  | 0x11 => some .sbcIndY
  | 0x12 => some .adcYl
  | 0x13 => some .adcIndY
  | 0x14 => some .ldaYl
  | 0x15 => some .ldaIndY
  | 0x16 => some .cpaYl
  | 0x17 => some .cpaIndY
  | 0x18 => some .staYh
  | 0x19 => some .andIndY
  | 0x1A => some .staYl
  | 0x1B => some .oraIndY
  | 0x1C => some .dcsIndY
  | 0x1D => some .eorIndY
  | 0x1E => some .staIndY
  | 0x1F => some .bitIndY
  | 0x20 => some .sbcUl
  | 0x21 => some .sbcIndU
  | 0x22 => some .adcUl
  | 0x23 => some .adcIndU
  | 0x24 => some .ldaUl
  | 0x25 => some .ldaIndU
  | 0x26 => some .cpaUl
  | 0x27 => some .cpaIndU
  | 0x28 => some .staUh
  | 0x29 => some .andIndU
  | 0x2A => some .staUl
  | 0x2B => some .oraIndU
  | 0x2C => some .dcsIndU
  | 0x2D => some .eorIndU
  | 0x2E => some .staIndU
  | 0x2F => some .bitIndU
  | 0x38 => some .nop
  | 0x40 => some .incXl
  | 0x41 => some .sinX
  | 0x42 => some .decXl
  | 0x43 => some .sdeX
  | 0x44 => some .incX
  | 0x45 => some .linX
  | 0x46 => some .decX
  | 0x47 => some .ldeX
  | 0x48 => some (.ldiXh i)
  | 0x49 => some (.aniIndX i)
  | 0x4A => some (.ldiXl i)
  | 0x4B => some (.oriIndX i)
  | 0x4C => some (.cpiXh i)
  | 0x4D => some (.biiIndX i)
  | 0x4E => some (.cpiXl i)
  | 0x4F => some (.adiIndX i)
  | 0x50 => some .incYl
  | 0x51 => some .sinY
  | 0x52 => some .decYl
  | 0x53 => some .sdeY
  | 0x54 => some .incY
  | 0x55 => some .linY
  | 0x56 => some .decY
  | 0x57 => some .ldeY
  | 0x58 => some (.ldiYh i)
  | 0x59 => some (.aniIndY i)
  | 0x5A => some (.ldiYl i)
  | 0x5B => some (.oriIndY i)
  | 0x5C => some (.cpiYh i)
  | 0x5D => some (.biiIndY i)
  | 0x5E => some (.cpiYl i)
  | 0x5F => some (.adiIndY i)
  | 0x60 => some .incUl
  | 0x61 => some .sinU
  | 0x62 => some .decUl
  | 0x63 => some .sdeU
  | 0x64 => some .incU
  | 0x65 => some .linU
  | 0x66 => some .decU
  | 0x67 => some .ldeU
  | 0x68 => some (.ldiUh i)
  | 0x69 => some (.aniIndU i)
  | 0x6A => some (.ldiUl i)
  | 0x6B => some (.oriIndU i)
  | 0x6C => some (.cpiUh i)
  | 0x6D => some (.biiIndU i)
  | 0x6E => some (.cpiUl i)
  | 0x6F => some (.adiIndU i)
  | 0x80 => some .sbcXh
  | 0x81 => some (.bcrFwd i)
  | 0x82 => some .adcXh
  | 0x83 => some (.bcsFwd i)
  | 0x84 => some .ldaXh
  | 0x85 => some (.bhrFwd i)
  | 0x86 => some .cpaXh
  | 0x87 => some (.bhsFwd i)
  | 0x88 => some (.lop i)
  | 0x89 => some (.bzrFwd i)
  | 0x8A => some .rti
  | 0x8B => some (.bzsFwd i)
  | 0x8C => some .dcaIndX
  | 0x8D => some (.bvrFwd i)
  | 0x8E => some (.bchFwd i)
  | 0x8F => some (.bvsFwd i)
  | 0x90 => some .sbcYh
  | 0x91 => some (.bcrBack i)
  | 0x92 => some .adcYh
  | 0x93 => some (.bcsBack i)
  | 0x94 => some .ldaYh
  | 0x95 => some (.bhrBack i)
  | 0x96 => some .cpaYh
  | 0x97 => some (.bhsBack i)
  | 0x99 => some (.bzrBack i)
  | 0x9A => some .rtn
  | 0x9B => some (.bzsBack i)
  | 0x9C => some .dcaIndY
  | 0x9D => some (.bvrBack i)
  | 0x9E => some (.bchBack i)
  | 0x9F => some (.bvsBack i)
  | 0xA0 => some .sbcUh
  | 0xA1 => some (.sbcAbs i j)
  | 0xA2 => some .adcUh
  | 0xA3 => some (.adcAbs i j)
  | 0xA4 => some .ldaUh
  | 0xA5 => some (.ldaAbs i j)
  | 0xA6 => some .cpaUh
  | 0xA7 => some (.cpaAbs i j)
  | 0xA8 => some .spv
  | 0xA9 => some (.andAbs i j)
  | 0xAA => some (.ldiS i j)
  | 0xAB => some (.oraAbs i j)
  | 0xAC => some .dcaIndU
  | 0xAD => some (.eorAbs i j)
  | 0xAE => some (.staAbs i j)
  | 0xAF => some (.bitAbs i j)
  | 0xB1 => some (.sbiA i)
  | 0xB3 => some (.adiA i)
  | 0xB5 => some (.ldiA i)
  | 0xB7 => some (.cpiA i)
  | 0xB8 => some .rpv
  | 0xB9 => some (.aniA i)
  | 0xBA => some (.jmp i j)
  | 0xBB => some (.oriA i)
  | 0xBD => some (.eai i)
  | 0xBE => some (.sjp i j)
  | 0xBF => some (.biiA i)
  | 0xC0 => some .vejC0
  | 0xC1 => some (.vcr i)
  | 0xC2 => some .vejC2
  | 0xC3 => some (.vcs i)
  | 0xC4 => some .vejC4
  | 0xC5 => some (.vhr i)
  | 0xC6 => some .vejC6
  | 0xC7 => some (.vhs i)
  | 0xC8 => some .vejC8
  | 0xC9 => some (.vzr i)
  | 0xCA => some .vejCA
  | 0xCB => some (.vzs i)
  | 0xCC => some .vejCC
  | 0xCD => some (.vmj i)
  | 0xCE => some .vejCE
  | 0xCF => some (.vvs i)
  | 0xD0 => some .vejD0
  | 0xD1 => some .ror
  | 0xD2 => some .vejD2
  | 0xD3 => some .drrIndX
  | 0xD4 => some .vejD4
  | 0xD5 => some .shr
  | 0xD6 => some .vejD6
  | 0xD7 => some .drlIndX
  | 0xD8 => some .vejD8
  | 0xD9 => some .shl
  | 0xDA => some .vejDA
  | 0xDB => some .rol
  | 0xDC => some .vejDC
  | 0xDD => some .incA
  | 0xDE => some .vejDE
  | 0xDF => some .decA
  | 0xE0 => some .vejE0
  | 0xE1 => some .spu
  | 0xE2 => some .vejE2
  | 0xE3 => some .rpu
  | 0xE4 => some .vejE4
  | 0xE6 => some .vejE6
  | 0xE8 => some .vejE8
  | 0xE9 => some (.aniAbs i j k)
  | 0xEA => some .vejEA
  | 0xEB => some (.oriAbs i j k)
  | 0xEC => some .vejEC
  | 0xED => some (.biiAbs i j k)
  | 0xEE => some .vejEE
  | 0xEF => some (.adiAbs i j k)
  | 0xF0 => some .vejF0
  | 0xF1 => some .aex
  | 0xF2 => some .vejF2
  | 0xF4 => some .vejF4
  | 0xF5 => some .tin
  | 0xF6 => some .vejF6
  | 0xF7 => some .cin
  | 0xF9 => some .recC
  | 0xFB => some .secC
  | _ => none

/-- The second page, after the byte FDH (30_encoding.md R69). -/
def secondPage (op : Nat) (i j k : Byte) : Option Instr :=
  match op with
  | 0x01 => some .sbcInd1X
  | 0x03 => some .adcInd1X
  | 0x05 => some .ldaInd1X
  | 0x07 => some .cpaInd1X
  | 0x08 => some .ldxX
  | 0x09 => some .andInd1X
  | 0x0A => some .popX
  | 0x0B => some .oraInd1X
  | 0x0C => some .dcsInd1X
  | 0x0D => some .eorInd1X
  | 0x0E => some .staInd1X
  | 0x0F => some .bitInd1X
  | 0x11 => some .sbcInd1Y
  | 0x13 => some .adcInd1Y
  | 0x15 => some .ldaInd1Y
  | 0x17 => some .cpaInd1Y
  | 0x18 => some .ldxY
  | 0x19 => some .andInd1Y
  | 0x1A => some .popY
  | 0x1B => some .oraInd1Y
  | 0x1C => some .dcsInd1Y
  | 0x1D => some .eorInd1Y
  | 0x1E => some .staInd1Y
  | 0x1F => some .bitInd1Y
  | 0x21 => some .sbcInd1U
  | 0x23 => some .adcInd1U
  | 0x25 => some .ldaInd1U
  | 0x27 => some .cpaInd1U
  | 0x28 => some .ldxU
  | 0x29 => some .andInd1U
  | 0x2A => some .popU
  | 0x2B => some .oraInd1U
  | 0x2C => some .dcsInd1U
  | 0x2D => some .eorInd1U
  | 0x2E => some .staInd1U
  | 0x2F => some .bitInd1U
  | 0x40 => some .incXh
  | 0x42 => some .decXh
  | 0x48 => some .ldxS
  | 0x49 => some (.aniInd1X i)
  | 0x4A => some .stxX
  | 0x4B => some (.oriInd1X i)
  | 0x4C => some .off
  | 0x4D => some (.biiInd1X i)
  | 0x4E => some .stxS
  | 0x4F => some (.adiInd1X i)
  | 0x50 => some .incYh
  | 0x52 => some .decYh
  | 0x58 => some .ldxP
  | 0x59 => some (.aniInd1Y i)
  | 0x5A => some .stxY
  | 0x5B => some (.oriInd1Y i)
  | 0x5D => some (.biiInd1Y i)
  | 0x5E => some .stxP
  | 0x5F => some (.adiInd1Y i)
  | 0x60 => some .incUh
  | 0x62 => some .decUh
  | 0x69 => some (.aniInd1U i)
  | 0x6A => some .stxU
  | 0x6B => some (.oriInd1U i)
  | 0x6D => some (.biiInd1U i)
  | 0x6F => some (.adiInd1U i)
  | 0x81 => some .sie
  | 0x88 => some .pshX
  | 0x8A => some .popA
  | 0x8C => some .dcaInd1X
  | 0x8E => some .cdv
  | 0x98 => some .pshY
  | 0x9C => some .dcaInd1Y
  | 0xA1 => some (.sbcAbs1 i j)
  | 0xA3 => some (.adcAbs1 i j)
  | 0xA5 => some (.ldaAbs1 i j)
  | 0xA7 => some (.cpaAbs1 i j)
  | 0xA8 => some .pshU
  | 0xA9 => some (.andAbs1 i j)
  | 0xAA => some .tta
  | 0xAB => some (.oraAbs1 i j)
  | 0xAC => some .dcaInd1U
  | 0xAD => some (.eorAbs1 i j)
  | 0xAE => some (.staAbs1 i j)
  | 0xAF => some (.bitAbs1 i j)
  | 0xB1 => some .hlt
  | 0xBA => some .ita
  | 0xBE => some .rie
  | 0xC0 => some .rdp
  | 0xC1 => some .sdp
  | 0xC8 => some .pshA
  | 0xCA => some .adrX
  | 0xCC => some .atp
  | 0xCE => some .am0
  | 0xD3 => some .drrInd1X
  | 0xD7 => some .drlInd1X
  | 0xDA => some .adrY
  | 0xDE => some .am1
  | 0xE9 => some (.aniAbs1 i j k)
  | 0xEA => some .adrU
  | 0xEB => some (.oriAbs1 i j k)
  | 0xEC => some .att
  | 0xED => some (.biiAbs1 i j k)
  | 0xEF => some (.adiAbs1 i j k)
  | _ => none

/-- Decode what follows the page: the opcode byte and its operand bytes. -/
def decodePage (second : Bool) (op : Byte) (rest : List Byte) : Except DecodeError (Instr × List Byte) :=
  let n := operandCount second op
  if rest.length < n then .error .truncated
  else
    let i := rest.getD 0 0#8
    let j := rest.getD 1 0#8
    let k := rest.getD 2 0#8
    match (if second then secondPage op.toNat i j k else firstPage op.toNat i j k) with
    | some ins => .ok (ins, rest.drop n)
    | none => .error (.illegalOpcode second op)

/-- Decode the instruction at the head of a list of bytes, with the bytes after it (R75). A first byte FDH is always the
page byte; register number 3 and every unlisted byte is rejected by name (R70, R71). -/
def decode : List Byte → Except DecodeError (Instr × List Byte)
  | [] => .error .truncated
  | b0 :: rest =>
    if b0 = 0xFD#8 then
      match rest with
      | [] => .error .truncated
      | b1 :: rest1 => decodePage true b1 rest1
    else decodePage false b0 rest

/-- The bytes of an instruction in fetch order: the opcode byte, after the byte FDH on the second page, then the
operand bytes (30_encoding.md R61, R68, R69). -/
def encode : Instr → List Byte
  | .adcXl => [0x02#8]
  | .adcIndX => [0x03#8]
  | .adcYl => [0x12#8]
  | .adcIndY => [0x13#8]
  | .adcUl => [0x22#8]
  | .adcIndU => [0x23#8]
  | .adcXh => [0x82#8]
  | .adcYh => [0x92#8]
  | .adcUh => [0xA2#8]
  | .adcAbs a b => [0xA3#8, a, b]
  | .adcInd1X => [0xFD#8, 0x03#8]
  | .adcInd1Y => [0xFD#8, 0x13#8]
  | .adcInd1U => [0xFD#8, 0x23#8]
  | .adcAbs1 a b => [0xFD#8, 0xA3#8, a, b]
  | .adiIndX i => [0x4F#8, i]
  | .adiIndY i => [0x5F#8, i]
  | .adiIndU i => [0x6F#8, i]
  | .adiA i => [0xB3#8, i]
  | .adiAbs a b i => [0xEF#8, a, b, i]
  | .adiInd1X i => [0xFD#8, 0x4F#8, i]
  | .adiInd1Y i => [0xFD#8, 0x5F#8, i]
  | .adiInd1U i => [0xFD#8, 0x6F#8, i]
  | .adiAbs1 a b i => [0xFD#8, 0xEF#8, a, b, i]
  | .dcaIndX => [0x8C#8]
  | .dcaIndY => [0x9C#8]
  | .dcaIndU => [0xAC#8]
  | .dcaInd1X => [0xFD#8, 0x8C#8]
  | .dcaInd1Y => [0xFD#8, 0x9C#8]
  | .dcaInd1U => [0xFD#8, 0xAC#8]
  | .adrX => [0xFD#8, 0xCA#8]
  | .adrY => [0xFD#8, 0xDA#8]
  | .adrU => [0xFD#8, 0xEA#8]
  | .sbcXl => [0x00#8]
  | .sbcIndX => [0x01#8]
  | .sbcYl => [0x10#8]
  | .sbcIndY => [0x11#8]
  | .sbcUl => [0x20#8]
  | .sbcIndU => [0x21#8]
  | .sbcXh => [0x80#8]
  | .sbcYh => [0x90#8]
  | .sbcUh => [0xA0#8]
  | .sbcAbs a b => [0xA1#8, a, b]
  | .sbcInd1X => [0xFD#8, 0x01#8]
  | .sbcInd1Y => [0xFD#8, 0x11#8]
  | .sbcInd1U => [0xFD#8, 0x21#8]
  | .sbcAbs1 a b => [0xFD#8, 0xA1#8, a, b]
  | .sbiA i => [0xB1#8, i]
  | .dcsIndX => [0x0C#8]
  | .dcsIndY => [0x1C#8]
  | .dcsIndU => [0x2C#8]
  | .dcsInd1X => [0xFD#8, 0x0C#8]
  | .dcsInd1Y => [0xFD#8, 0x1C#8]
  | .dcsInd1U => [0xFD#8, 0x2C#8]
  | .andIndX => [0x09#8]
  | .andIndY => [0x19#8]
  | .andIndU => [0x29#8]
  | .andAbs a b => [0xA9#8, a, b]
  | .andInd1X => [0xFD#8, 0x09#8]
  | .andInd1Y => [0xFD#8, 0x19#8]
  | .andInd1U => [0xFD#8, 0x29#8]
  | .andAbs1 a b => [0xFD#8, 0xA9#8, a, b]
  | .aniIndX i => [0x49#8, i]
  | .aniIndY i => [0x59#8, i]
  | .aniIndU i => [0x69#8, i]
  | .aniA i => [0xB9#8, i]
  | .aniAbs a b i => [0xE9#8, a, b, i]
  | .aniInd1X i => [0xFD#8, 0x49#8, i]
  | .aniInd1Y i => [0xFD#8, 0x59#8, i]
  | .aniInd1U i => [0xFD#8, 0x69#8, i]
  | .aniAbs1 a b i => [0xFD#8, 0xE9#8, a, b, i]
  | .oraIndX => [0x0B#8]
  | .oraIndY => [0x1B#8]
  | .oraIndU => [0x2B#8]
  | .oraAbs a b => [0xAB#8, a, b]
  | .oraInd1X => [0xFD#8, 0x0B#8]
  | .oraInd1Y => [0xFD#8, 0x1B#8]
  | .oraInd1U => [0xFD#8, 0x2B#8]
  | .oraAbs1 a b => [0xFD#8, 0xAB#8, a, b]
  | .oriIndX i => [0x4B#8, i]
  | .oriIndY i => [0x5B#8, i]
  | .oriIndU i => [0x6B#8, i]
  | .oriA i => [0xBB#8, i]
  | .oriAbs a b i => [0xEB#8, a, b, i]
  | .oriInd1X i => [0xFD#8, 0x4B#8, i]
  | .oriInd1Y i => [0xFD#8, 0x5B#8, i]
  | .oriInd1U i => [0xFD#8, 0x6B#8, i]
  | .oriAbs1 a b i => [0xFD#8, 0xEB#8, a, b, i]
  | .eorIndX => [0x0D#8]
  | .eorIndY => [0x1D#8]
  | .eorIndU => [0x2D#8]
  | .eorAbs a b => [0xAD#8, a, b]
  | .eorInd1X => [0xFD#8, 0x0D#8]
  | .eorInd1Y => [0xFD#8, 0x1D#8]
  | .eorInd1U => [0xFD#8, 0x2D#8]
  | .eorAbs1 a b => [0xFD#8, 0xAD#8, a, b]
  | .eai i => [0xBD#8, i]
  | .incXl => [0x40#8]
  | .incX => [0x44#8]
  | .incYl => [0x50#8]
  | .incY => [0x54#8]
  | .incUl => [0x60#8]
  | .incU => [0x64#8]
  | .incA => [0xDD#8]
  | .incXh => [0xFD#8, 0x40#8]
  | .incYh => [0xFD#8, 0x50#8]
  | .incUh => [0xFD#8, 0x60#8]
  | .decXl => [0x42#8]
  | .decX => [0x46#8]
  | .decYl => [0x52#8]
  | .decY => [0x56#8]
  | .decUl => [0x62#8]
  | .decU => [0x66#8]
  | .decA => [0xDF#8]
  | .decXh => [0xFD#8, 0x42#8]
  | .decYh => [0xFD#8, 0x52#8]
  | .decUh => [0xFD#8, 0x62#8]
  | .cpaXl => [0x06#8]
  | .cpaIndX => [0x07#8]
  | .cpaYl => [0x16#8]
  | .cpaIndY => [0x17#8]
  | .cpaUl => [0x26#8]
  | .cpaIndU => [0x27#8]
  | .cpaXh => [0x86#8]
  | .cpaYh => [0x96#8]
  | .cpaUh => [0xA6#8]
  | .cpaAbs a b => [0xA7#8, a, b]
  | .cpaInd1X => [0xFD#8, 0x07#8]
  | .cpaInd1Y => [0xFD#8, 0x17#8]
  | .cpaInd1U => [0xFD#8, 0x27#8]
  | .cpaAbs1 a b => [0xFD#8, 0xA7#8, a, b]
  | .cpiXh i => [0x4C#8, i]
  | .cpiXl i => [0x4E#8, i]
  | .cpiYh i => [0x5C#8, i]
  | .cpiYl i => [0x5E#8, i]
  | .cpiUh i => [0x6C#8, i]
  | .cpiUl i => [0x6E#8, i]
  | .cpiA i => [0xB7#8, i]
  | .bitIndX => [0x0F#8]
  | .bitIndY => [0x1F#8]
  | .bitIndU => [0x2F#8]
  | .bitAbs a b => [0xAF#8, a, b]
  | .bitInd1X => [0xFD#8, 0x0F#8]
  | .bitInd1Y => [0xFD#8, 0x1F#8]
  | .bitInd1U => [0xFD#8, 0x2F#8]
  | .bitAbs1 a b => [0xFD#8, 0xAF#8, a, b]
  | .biiIndX i => [0x4D#8, i]
  | .biiIndY i => [0x5D#8, i]
  | .biiIndU i => [0x6D#8, i]
  | .biiA i => [0xBF#8, i]
  | .biiAbs a b i => [0xED#8, a, b, i]
  | .biiInd1X i => [0xFD#8, 0x4D#8, i]
  | .biiInd1Y i => [0xFD#8, 0x5D#8, i]
  | .biiInd1U i => [0xFD#8, 0x6D#8, i]
  | .biiAbs1 a b i => [0xFD#8, 0xED#8, a, b, i]
  | .ldaXl => [0x04#8]
  | .ldaIndX => [0x05#8]
  | .ldaYl => [0x14#8]
  | .ldaIndY => [0x15#8]
  | .ldaUl => [0x24#8]
  | .ldaIndU => [0x25#8]
  | .ldaXh => [0x84#8]
  | .ldaYh => [0x94#8]
  | .ldaUh => [0xA4#8]
  | .ldaAbs a b => [0xA5#8, a, b]
  | .ldaInd1X => [0xFD#8, 0x05#8]
  | .ldaInd1Y => [0xFD#8, 0x15#8]
  | .ldaInd1U => [0xFD#8, 0x25#8]
  | .ldaAbs1 a b => [0xFD#8, 0xA5#8, a, b]
  | .ldeX => [0x47#8]
  | .ldeY => [0x57#8]
  | .ldeU => [0x67#8]
  | .linX => [0x45#8]
  | .linY => [0x55#8]
  | .linU => [0x65#8]
  | .ldiXh i => [0x48#8, i]
  | .ldiXl i => [0x4A#8, i]
  | .ldiYh i => [0x58#8, i]
  | .ldiYl i => [0x5A#8, i]
  | .ldiUh i => [0x68#8, i]
  | .ldiUl i => [0x6A#8, i]
  | .ldiS i j => [0xAA#8, i, j]
  | .ldiA i => [0xB5#8, i]
  | .ldxX => [0xFD#8, 0x08#8]
  | .ldxY => [0xFD#8, 0x18#8]
  | .ldxU => [0xFD#8, 0x28#8]
  | .ldxS => [0xFD#8, 0x48#8]
  | .ldxP => [0xFD#8, 0x58#8]
  | .staXh => [0x08#8]
  | .staXl => [0x0A#8]
  | .staIndX => [0x0E#8]
  | .staYh => [0x18#8]
  | .staYl => [0x1A#8]
  | .staIndY => [0x1E#8]
  | .staUh => [0x28#8]
  | .staUl => [0x2A#8]
  | .staIndU => [0x2E#8]
  | .staAbs a b => [0xAE#8, a, b]
  | .staInd1X => [0xFD#8, 0x0E#8]
  | .staInd1Y => [0xFD#8, 0x1E#8]
  | .staInd1U => [0xFD#8, 0x2E#8]
  | .staAbs1 a b => [0xFD#8, 0xAE#8, a, b]
  | .sdeX => [0x43#8]
  | .sdeY => [0x53#8]
  | .sdeU => [0x63#8]
  | .sinX => [0x41#8]
  | .sinY => [0x51#8]
  | .sinU => [0x61#8]
  | .stxX => [0xFD#8, 0x4A#8]
  | .stxS => [0xFD#8, 0x4E#8]
  | .stxY => [0xFD#8, 0x5A#8]
  | .stxP => [0xFD#8, 0x5E#8]
  | .stxU => [0xFD#8, 0x6A#8]
  | .pshX => [0xFD#8, 0x88#8]
  | .pshY => [0xFD#8, 0x98#8]
  | .pshU => [0xFD#8, 0xA8#8]
  | .pshA => [0xFD#8, 0xC8#8]
  | .popX => [0xFD#8, 0x0A#8]
  | .popY => [0xFD#8, 0x1A#8]
  | .popU => [0xFD#8, 0x2A#8]
  | .popA => [0xFD#8, 0x8A#8]
  | .att => [0xFD#8, 0xEC#8]
  | .tta => [0xFD#8, 0xAA#8]
  | .tin => [0xF5#8]
  | .cin => [0xF7#8]
  | .rol => [0xDB#8]
  | .ror => [0xD1#8]
  | .shl => [0xD9#8]
  | .shr => [0xD5#8]
  | .drlIndX => [0xD7#8]
  | .drlInd1X => [0xFD#8, 0xD7#8]
  | .drrIndX => [0xD3#8]
  | .drrInd1X => [0xFD#8, 0xD3#8]
  | .aex => [0xF1#8]
  | .secC => [0xFB#8]
  | .recC => [0xF9#8]
  | .cdv => [0xFD#8, 0x8E#8]
  | .atp => [0xFD#8, 0xCC#8]
  | .spu => [0xE1#8]
  | .rpu => [0xE3#8]
  | .spv => [0xA8#8]
  | .rpv => [0xB8#8]
  | .sdp => [0xFD#8, 0xC1#8]
  | .rdp => [0xFD#8, 0xC0#8]
  | .ita => [0xFD#8, 0xBA#8]
  | .sie => [0xFD#8, 0x81#8]
  | .rie => [0xFD#8, 0xBE#8]
  | .am0 => [0xFD#8, 0xCE#8]
  | .am1 => [0xFD#8, 0xDE#8]
  | .nop => [0x38#8]
  | .hlt => [0xFD#8, 0xB1#8]
  | .off => [0xFD#8, 0x4C#8]
  | .jmp i j => [0xBA#8, i, j]
  | .bchFwd i => [0x8E#8, i]
  | .bchBack i => [0x9E#8, i]
  | .bcsFwd i => [0x83#8, i]
  | .bcsBack i => [0x93#8, i]
  | .bcrFwd i => [0x81#8, i]
  | .bcrBack i => [0x91#8, i]
  | .bhsFwd i => [0x87#8, i]
  | .bhsBack i => [0x97#8, i]
  | .bhrFwd i => [0x85#8, i]
  | .bhrBack i => [0x95#8, i]
  | .bzsFwd i => [0x8B#8, i]
  | .bzsBack i => [0x9B#8, i]
  | .bzrFwd i => [0x89#8, i]
  | .bzrBack i => [0x99#8, i]
  | .bvsFwd i => [0x8F#8, i]
  | .bvsBack i => [0x9F#8, i]
  | .bvrFwd i => [0x8D#8, i]
  | .bvrBack i => [0x9D#8, i]
  | .lop i => [0x88#8, i]
  | .sjp i j => [0xBE#8, i, j]
  | .vejC0 => [0xC0#8]
  | .vejC2 => [0xC2#8]
  | .vejC4 => [0xC4#8]
  | .vejC6 => [0xC6#8]
  | .vejC8 => [0xC8#8]
  | .vejCA => [0xCA#8]
  | .vejCC => [0xCC#8]
  | .vejCE => [0xCE#8]
  | .vejD0 => [0xD0#8]
  | .vejD2 => [0xD2#8]
  | .vejD4 => [0xD4#8]
  | .vejD6 => [0xD6#8]
  | .vejD8 => [0xD8#8]
  | .vejDA => [0xDA#8]
  | .vejDC => [0xDC#8]
  | .vejDE => [0xDE#8]
  | .vejE0 => [0xE0#8]
  | .vejE2 => [0xE2#8]
  | .vejE4 => [0xE4#8]
  | .vejE6 => [0xE6#8]
  | .vejE8 => [0xE8#8]
  | .vejEA => [0xEA#8]
  | .vejEC => [0xEC#8]
  | .vejEE => [0xEE#8]
  | .vejF0 => [0xF0#8]
  | .vejF2 => [0xF2#8]
  | .vejF4 => [0xF4#8]
  | .vejF6 => [0xF6#8]
  | .vmj i => [0xCD#8, i]
  | .vcs i => [0xC3#8, i]
  | .vcr i => [0xC1#8, i]
  | .vhs i => [0xC7#8, i]
  | .vhr i => [0xC5#8, i]
  | .vzs i => [0xCB#8, i]
  | .vzr i => [0xC9#8, i]
  | .vvs i => [0xCF#8, i]
  | .rtn => [0x9A#8]
  | .rti => [0x8A#8]

/-! ### The words of spec/opcode_table.json -/

/-- The `n` bytes of `w`, the most significant first. -/
def bytesMsbFirst : Nat → Nat → List Byte
  | 0, _ => []
  | n + 1, w => bytesMsbFirst n (w / 256) ++ [BitVec.ofNat 8 w]

/-- The `n` bytes of `w`, the least significant first. -/
def bytesLsbFirst : Nat → Nat → List Byte
  | 0, _ => []
  | n + 1, w => BitVec.ofNat 8 w :: bytesLsbFirst n (w / 256)

/-- Bytes followed by zeros up to the longest instruction, five bytes. -/
def padded (bs : List Byte) : List Byte := (bs ++ List.replicate 5 0#8).take 5

/-- Whether the bytes begin with an instruction whose length satisfies `ok`. -/
def decodesTo (bs : List Byte) (ok : Nat → Bool) : Bool :=
  match decode (padded bs) with
  | .ok (_, rest) => ok (5 - rest.length)
  | .error _ => false

/-- The bytes, in fetch order, of a word of `nbits` bits as the table numbers its bits. The table's `fixed` fields put
the FIRST byte of a row in the highest bits; a numbering with the first byte in bits 7 to 0 is read too, where the first
reading gives no instruction of that length (log 21). -/
def tableBytes (nbits w : Nat) : List Byte :=
  let n := (nbits + 7) / 8
  let hi := bytesMsbFirst n w
  let lo := bytesLsbFirst n w
  if decodesTo hi (fun len => len == n) then padded hi
  else if decodesTo lo (fun len => len == n) then padded lo
  else if decodesTo hi (fun len => decide (n < len)) then padded hi
  else if decodesTo lo (fun len => decide (n < len)) then padded lo
  else padded hi

/-- The instruction the decoder reads from a word of the table. -/
def decodeTableWord (nbits w : Nat) : Option Instr :=
  match decode (tableBytes nbits w) with
  | .ok (i, _) => some i
  | .error _ => none

end Sys2Proof
end

