-- ==== Sys2Proof/Config.lean ====
section
/-! DEFINITION. What an implementation fixes and the spec leaves open, and the free values. The `opaque` constants
have no body, so nothing can be proved of their values: a claim holds whatever they are. -/

namespace Sys2Proof.Config

/-- DESIGN CHOICE (log 1): the byte a memory cell reads as when nothing has been stored in it. RAM after power-on is
unspecified (93_implementation_defined.md U4); 00H is the convention of 95_test_vectors.md. -/
def unlistedByte : Byte := 0#8

/-- The open parameter `MI_BEFORE_TIMER` (60_exceptions.md R313, 92_eei_decisions.md D4): whether a pending maskable
interrupt is taken before a pending timer interrupt. No default, so no body (log 7). -/
opaque miBeforeTimer : Bool

/-- The open parameter `HLT_WAKE_IGNORES_IE` (45_cpu_control.md R186, 92_eei_decisions.md D8): whether any interrupt
request, taken or not, releases the halt. A proof has to hold for both values (log 8). -/
opaque hltWakeIgnoresIE : Bool

/-- How many CPU steps fall between two timer steps when no move is scripted: the spec leaves it to fairness (00_scope.md
R8, 92_eei_decisions.md D10), so a free natural number at each draw (log 34). -/
opaque cpuStepsToTimer : Nat → Nat

/-- How many counts beyond one a divider runs on in a turn of the CPU or of the timer, at each draw: divider 0 is the CPU's,
1 to 4 those of the controllers. The spec states neither the dividers' taps nor how their counts fall among the steps
(10_state.md R29, 91_not_in_source.md), so a free natural number (log 32). -/
opaque dividerCounts : Nat → Nat → Nat

/-- `any(8)` of 00_scope.md R7: the `n`-th free byte of a run (log 6, log 19, log 35). -/
opaque freeByte : Nat → Byte

/-- `any(1)` of 00_scope.md R7: the `n`-th free bit of a run (log 10, log 11, log 18). -/
opaque freeBit : Nat → Bool

end Sys2Proof.Config
end

