-- ==== Sys2Proof/Machine/State.lean ====
section
/-! DEFINITION. The state of the machine (10_state.md R10, 20_memory.md R40, 60_exceptions.md R330), as plain data,
with its reset values, and the reasons a step can stop. -/

namespace Sys2Proof.Machine

/-- The two memory spaces, named after the memory-enable pins (20_memory.md R40). -/
inductive Space where
  | me0
  | me1
deriving DecidableEq, Repr

/-- The LH5810/LH5811 I/O port controllers whose places in ME1 the spec gives: the one built into the PC-1500, and those
of its three peripherals (20_memory.md R56). -/
inductive IocUnit where
  | builtIn
  | ce150
  | ce153
  | ce158
deriving DecidableEq, Repr

/-- What stands at an address of the memory map (20_memory.md R48). -/
inductive RegionKind where
  /-- readable and writable memory, whose bytes are those of the memory bank `bank` -/
  | ram (bank : Nat)
  /-- memory that a write does not change -/
  | rom (bank : Nat)
  /-- an LH5810/LH5811 I/O port controller, its registers selected by the low four address bits -/
  | ioc (unit : IocUnit)
  /-- a device the spec does not describe: reads and writes go to the host -/
  | device
  /-- nothing: a read gives an undetermined byte, a write has no effect -/
  | absent
  /-- a read gives this byte and a write has no effect: nothing but the board's pull-ups, or a byte of ROM that the spec
  states (20_memory.md R58) -/
  | fixed (value : Byte)
deriving DecidableEq, Repr

/-- One entry of the memory map: `size` addresses from `base` of one space, in force only while PV, PU and BF have the
given values (`none`: whatever they are). On the PC-1500 the map depends on PV and PU (20_memory.md R57) and is enabled
by BFO (R55). -/
structure Region where
  space : Space
  base : Nat
  size : Nat
  pv : Option Bool := none
  pu : Option Bool := none
  bf : Option Bool := none
  kind : RegionKind
deriving DecidableEq, Repr

/-- The board parameters of 00_scope.md R5: the memory map (the first region that covers an address decides; an address
no region covers is RAM, 92_eei_decisions.md D20), the controllers whose OPC register the CPU's pulse PhiP clocks
(60_exceptions.md R333, log 27), and those whose output INT drives the CPU's pin MI (R331, log 17). -/
structure Board where
  map : List Region
  phiLatch : List IocUnit
  intToMi : List IocUnit
deriving DecidableEq, Repr

/-- Memory: (cell, byte) pairs. The cell of address `a` in bank `k` is `65536 k + a`; ME0 is bank 0 and ME1 bank 1
unless the memory map says otherwise. -/
abbrev Memory := List Host.Cell

/-- An LH5810/LH5811 I/O port controller (60_exceptions.md R330 to R339): its registers, and the levels its pins are
driven to from outside. -/
structure Ioc where
  g : Byte
  f : Byte
  opa : Byte
  opb : Byte
  opc : Byte
  dda : Byte
  ddb : Byte
  /-- mask bits for IRQ, PB7, RD, TD in bits 0 to 3 (R335) -/
  msk : BitVec 4
  /-- IF bit 0, set by a rising edge of IRQ (R336) -/
  if0 : Bool
  /-- IF bit 1, set by a rising edge of PB7 -/
  if1 : Bool
  /-- IF bit 2, the receive flag -/
  rd : Bool
  /-- IF bit 3, the transmit flag -/
  td : Bool
  /-- the U register: the serial byte received -/
  u : Byte
  /-- the serial transmit register -/
  tx : Byte
  /-- the controller's own clock divider, timing only (R332, offset +4; log 32) -/
  divider : Nat
  /-- levels driven on PA0 to PA7 from outside -/
  pa : Byte
  /-- levels driven on PB0 to PB7 from outside -/
  pb : Byte
  /-- level of the pin IRQ -/
  irq : Bool
deriving DecidableEq, Repr

/-- The controllers of R56. -/
structure Iocs where
  builtIn : Ioc
  ce150 : Ioc
  ce153 : Ioc
  ce158 : Ioc
deriving DecidableEq, Repr

/-- What happens on a controller's own pins. -/
inductive IocMove where
  /-- new levels on PA, PB and IRQ -/
  | pins (pa pb : Byte) (irq : Bool)
  /-- a serial byte has been received (R336: sets RD) -/
  | received (v : Byte)
  /-- the transmission of a serial byte has ended (R336: sets TD) -/
  | sent
  /-- one more count of the controller's own clock divider (R332, log 32) -/
  | divider
  /-- the controller's RESET (R339) -/
  | reset
deriving DecidableEq, Repr

/-- One move of one agent (00_scope.md R8). The list `script` of State says whose moves come next (log 9); after it the CPU
and the timer move (log 34). -/
inductive Move where
  /-- one CPU step -/
  | cpu
  /-- one cycle of PhiF: one step of the timer counter (60_exceptions.md R320) -/
  | timer
  /-- one more count of the clock divider, which also runs through every turn of the CPU and the timer (10_state.md R29,
  log 32) -/
  | divider
  /-- a rising edge seen on NMI (60_exceptions.md R305) -/
  | nmi
  /-- a rising edge seen on MI -/
  | mi
  /-- a complete RESET pulse (70_reset_and_hazards.md R400, R401) -/
  | reset
  /-- a rising edge on BFI (10_state.md R25) -/
  | bfi
  /-- new levels on IN0 to IN7 (10_state.md R30) -/
  | inPins (v : Byte)
  /-- a new level on WAIT, received by WA (10_state.md R28) -/
  | wait (level : Bool)
  /-- something happens on an I/O port controller's pins -/
  | ioc (unit : IocUnit) (m : IocMove)
  /-- an access by a second bus master (20_memory.md R53; log 15) -/
  | busMaster
deriving DecidableEq, Repr

/-- What the host sees (log 16). -/
inductive Output where
  /-- ATP (45_cpu_control.md R173): `Host.PortOut` of A, the address bus carrying X -/
  | portOut (data : Byte) (addressBus : Addr)
  /-- a read cycle at a device the spec does not describe, and the byte it answered -/
  | deviceRead (sp : Space) (a : Addr) (v : Byte)
  /-- a write cycle at such a device -/
  | deviceWrite (sp : Space) (a : Addr) (v : Byte)
  /-- a new level of the pin BFO, the inverse of BF (10_state.md R25) -/
  | bfo (level : Bool)
  /-- a byte given to a controller's serial output (60_exceptions.md R332, offset +6) -/
  | serialOut (unit : IocUnit) (v : Byte)
deriving DecidableEq, Repr

/-- The whole state. The spec's registers keep its names; `sp` is S. -/
structure State where
  /-- accumulator A (10_state.md R11) -/
  a : Byte
  /-- the six data registers (R12) -/
  xl : Byte
  xh : Byte
  yl : Byte
  yh : Byte
  ul : Byte
  uh : Byte
  /-- program counter P (R13) -/
  p : Addr
  /-- stack pointer S (R15) -/
  sp : Addr
  /-- the flags of T (R16): carry, interrupt enable, zero, overflow, half carry -/
  c : Bool
  ie : Bool
  z : Bool
  v : Bool
  h : Bool
  /-- timer counter TM (R22) -/
  tm : TimerWord
  /-- the clock divider, timing only (R29, log 32) -/
  divider : Nat
  /-- the wait flip-flop WA (R28) -/
  wa : Bool
  /-- general-purpose flip-flops PU and PV (R23) -/
  pu : Bool
  pv : Bool
  /-- LCD on/off flip-flop (R24) -/
  disp : Bool
  /-- backup flip-flop (R25) -/
  bf : Bool
  /-- interrupt request flip-flops: NMI, timer, MI (R26) -/
  ir0 : Bool
  ir1 : Bool
  ir2 : Bool
  /-- stopped by HLT (R27) -/
  halted : Bool
  /-- levels of IN0 to IN7 (R30) -/
  inPins : Byte
  /-- both memory spaces (20_memory.md R40) -/
  mem : Memory
  /-- the board's parameters (20_memory.md R48) -/
  board : Board
  /-- the I/O port controllers (60_exceptions.md R330, 20_memory.md R56) -/
  iocs : Iocs
  /-- host-visible events so far, newest first -/
  out : List Output
  /-- the agents' moves to come (the model's own, log 9) -/
  script : List Move
  /-- once the script is empty: the CPU steps left before the timer's next step (the model's own, log 34) -/
  untilTimer : Nat
  /-- how many free values have been drawn (the model's own) -/
  draws : Nat
deriving DecidableEq, Repr

/-- Why the machine stops. None of these is a hardware event (60_exceptions.md R300). -/
inductive Fault where
  /-- raised by the fetch of an opcode the tables do not list (30_encoding.md R70), with the page and the byte. Safe:
  nothing is claimed of what follows. -/
  | illegalOpcode (secondPage : Bool) (op : Byte)
  /-- raised by VMJ and by a taken conditional vector call whose operand is odd or above F6H (47_subroutine.md R222).
  Safe: nothing is claimed of what follows. -/
  | reservedOperand (i : Byte)
deriving DecidableEq, Repr

/-- Why the model declines to answer. -/
inductive Refusal where
  /-- raised by an arm of exec that has no meaning yet; no arm uses it. Safe. -/
  | notModelled (mnemonic : String)
  /-- raised by a script that names an access of a second bus master (20_memory.md R53, 93_implementation_defined.md
  U11). Safe: such a run is not modelled. -/
  | externalBusMaster
deriving DecidableEq, Repr

/-- What executing an instruction answers. -/
abbrev Result := Host.Outcome State Fault Refusal

/-- A controller after its RESET (60_exceptions.md R339), its pins driven low (log 20). -/
def Ioc.cleared : Ioc :=
  { g := 0#8, f := 0#8, opa := 0#8, opb := 0#8, opc := 0#8, dda := 0#8, ddb := 0#8, msk := 0#4,
    if0 := false, if1 := false, rd := false, td := false, u := 0#8, tx := 0#8, divider := 0,
    pa := 0#8, pb := 0#8, irq := false }

/-- The machine right after power-up and reset: what 10_state.md R31 states, and for the rest the values of log 1 to 5,
9, 14, 17, 20, 27, 32 and 34. P is the reset vector, read from a memory that lists nothing. -/
def State.reset : State :=
  { a := 0#8, xl := 0#8, xh := 0#8, yl := 0#8, yh := 0#8, ul := 0#8, uh := 0#8, p := 0#16, sp := 0#16,
    c := false, ie := false, z := false, v := false, h := false, tm := 0#9, divider := 0, wa := false,
    pu := false, pv := false, disp := false, bf := true, ir0 := false, ir1 := false, ir2 := false, halted := false,
    inPins := 0xFF#8, mem := [], board := { map := [], phiLatch := [], intToMi := [.builtIn] },
    iocs := { builtIn := Ioc.cleared, ce150 := Ioc.cleared, ce153 := Ioc.cleared, ce158 := Ioc.cleared },
    out := [], script := [], untilTimer := 1, draws := 0 }

end Sys2Proof.Machine
end

