-- ==== Sys2Proof/Machine/Flags.lean ====
section
/-! DEFINITION. Every flag computation of the spec: the adder of 10_state.md R21, the zero test of R20, the decimal
correction of 40_arith_logic.md R102, the status register T as a byte (R16), and the flags the rotates leave free
(44_rotate_shift.md R167). -/

namespace Sys2Proof.Machine

/-- What the adder answers: the 8-bit sum and the four flags. -/
structure AddResult where
  sum : Byte
  c : Bool
  h : Bool
  v : Bool
  z : Bool
deriving DecidableEq, Repr

/-- A one-bit value as a bit vector of width `n`. -/
def bitAs (n : Nat) (b : Bool) : BitVec n := (BitVec.ofBool b).setWidth n

/-- The 8-bit adder `ADD8(a, b, cin)` of 10_state.md R21. -/
def add8 (a b : Byte) (cin : Bool) : AddResult :=
  let s9 : BitVec 9 := a.setWidth 9 + b.setWidth 9 + bitAs 9 cin
  let r := s9.setWidth 8
  let c := s9.getLsbD 8
  let h := ((a.extractLsb' 0 4).setWidth 5 + (b.extractLsb' 0 4).setWidth 5 + bitAs 5 cin : BitVec 5).getLsbD 4
  let c6 := ((a.extractLsb' 0 7).setWidth 8 + (b.extractLsb' 0 7).setWidth 8 + bitAs 8 cin : BitVec 8).getLsbD 7
  { sum := r, c := c, h := h, v := c6 ^^ c, z := decide (r = 0#8) }

/-- A subtraction `a - b - (1 - cin)`: the adder on the one's complement (R21). -/
def sub8 (a b : Byte) (cin : Bool) : AddResult := add8 a (~~~b) cin

/-- `Z <- 1 if r == 00H else 0`. -/
def isZero (r : Byte) : Bool := decide (r = 0#8)

/-- The decimal correction DA, by C and H of the binary step (40_arith_logic.md R102, R106). -/
def decimalAdjust (c h : Bool) : Byte :=
  match c, h with
  | false, false => 0x9A#8
  | false, true => 0xA0#8
  | true, false => 0xFA#8
  | true, true => 0x00#8

/-- "Write flags from ADD8" (R21). -/
def State.setFlags (s : State) (r : AddResult) : State := { s with c := r.c, h := r.h, v := r.v, z := r.z }

/-- Write Z alone, as the zero test of `r`. -/
def State.setZ (s : State) (r : Byte) : State := { s with z := isZero r }

/-- The status register T as a byte, `000 H V Z IE C` (R16). -/
def State.t (s : State) : Byte :=
  0#3 ++ BitVec.ofBool s.h ++ BitVec.ofBool s.v ++ BitVec.ofBool s.z ++ BitVec.ofBool s.ie ++ BitVec.ofBool s.c

/-- Write T whole, as ATT and RTI do; bits 7 to 5 are discarded (R16). -/
def State.setT (s : State) (b : Byte) : State :=
  { s with c := b.getLsbD 0, ie := b.getLsbD 1, z := b.getLsbD 2, v := b.getLsbD 3, h := b.getLsbD 4 }

/-- The flags after ROL, ROR, SHL, SHR: C is the bit shifted out, H, V and Z are three fresh free bits
(44_rotate_shift.md R167, log 10). -/
def State.setShiftFlags (s : State) (c : Bool) : State :=
  { s with c := c, h := Config.freeBit s.draws, v := Config.freeBit (s.draws + 1), z := Config.freeBit (s.draws + 2),
           draws := s.draws + 3 }

end Sys2Proof.Machine
end

