-- ==== Sys2Proof/Machine/Ioc.lean ====
section
/-! DEFINITION. The LH5810/LH5811 I/O port controllers (60_exceptions.md R330 to R339): the interrupt output, the sixteen
addresses, what the pins do, and how the outputs INT reach the CPU's MI (R331). -/

namespace Sys2Proof.Machine

/-- The level of the output INT: some IF bit is set whose mask bit is 1 (R336, derived there). -/
def Ioc.int (d : Ioc) : Bool :=
  (d.if0 && d.msk.getLsbD 0) || (d.if1 && d.msk.getLsbD 1) || (d.rd && d.msk.getLsbD 2) || (d.td && d.msk.getLsbD 3)

/-- What stands on the eight pins of a port: OP where the direction bit is 1, the outside level where it is 0 (R333). -/
def portLevels (dd op pins : Byte) : Byte := (dd &&& op) ||| (~~~dd &&& pins)

def Ioc.portA (d : Ioc) : Byte := portLevels d.dda d.opa d.pa

def Ioc.portB (d : Ioc) : Byte := portLevels d.ddb d.opb d.pb

/-- PB7 is in the input mode. -/
def Ioc.pb7Input (d : Ioc) : Bool := !d.ddb.getLsbD 7

/-- A change of the controller from `old` to `new` in which the pin PB7 rises sets IF1 while PB7 is in the input mode
(R336); outside that mode the spec says nothing, and IF1 becomes its value OR the free bit (log 18). -/
def Ioc.pb7Edge (old new : Ioc) (free : Bool) : Ioc :=
  let rises := !old.portB.getLsbD 7 && new.portB.getLsbD 7
  let sure := old.pb7Input && new.pb7Input
  { new with if1 := new.if1 || (rises && (sure || free)) }

/-- The controller of a unit. -/
def Iocs.get (c : Iocs) (u : IocUnit) : Ioc :=
  match u with
  | .builtIn => c.builtIn
  | .ce150 => c.ce150
  | .ce153 => c.ce153
  | .ce158 => c.ce158

def Iocs.put (c : Iocs) (u : IocUnit) (d : Ioc) : Iocs :=
  match u with
  | .builtIn => { c with builtIn := d }
  | .ce150 => { c with ce150 := d }
  | .ce153 => { c with ce153 := d }
  | .ce158 => { c with ce158 := d }

def State.ioc (s : State) (u : IocUnit) : Ioc := s.iocs.get u

/-- The level on the CPU's pin MI that the controllers make: high while one that the board wires there has INT high (R331;
log 17). -/
def State.miLine (s : State) : Bool := s.board.intToMi.any (fun u => (s.ioc u).int)

/-- Put a controller into a new condition: the PB7 edge is noticed, and a rise of the line to MI sets IR2 (R331, R305).
One free bit is drawn. -/
def State.setIoc (s : State) (u : IocUnit) (d : Ioc) : State :=
  let t := { s with iocs := s.iocs.put u ((s.ioc u).pb7Edge d (Config.freeBit s.draws)), draws := s.draws + 1 }
  { t with ir2 := s.ir2 || (!s.miLine && t.miLine) }

/-- The OPC registers of these controllers latch A from the data bus, as the falling edge of PhiP makes them (R333). -/
def State.latchPorts (s : State) : List IocUnit → State
  | [] => s
  | u :: rest => State.latchPorts (s.setIoc u { s.ioc u with opc := s.a }) rest

/-- A free byte whose low bits are replaced: bits the spec marks "x" or leaves in an unknown order (log 19). -/
def freeAbove (free low : Byte) (n : Nat) : Byte :=
  (free &&& (0xFF#8 <<< n)) ||| (low &&& ~~~(0xFF#8 <<< n))

/-- The IF register as a byte, bits 3 to 0: TD, RD, IF1, IF0 (R336). -/
def Ioc.ifByte (d : Ioc) : Byte :=
  0#4 ++ BitVec.ofBool d.td ++ BitVec.ofBool d.rd ++ BitVec.ofBool d.if1 ++ BitVec.ofBool d.if0

/-- A read of the controller (R332): the byte on the data bus and the controller afterwards. Reading +5 clears RD
(R334); reading a port loads its input bits into the port register (R333); an unlisted offset gives the free byte. -/
def Ioc.read (d : Ioc) (reg : BitVec 4) (free : Byte) : Byte × Ioc :=
  match reg.toNat with
  | 5 => (d.u, { d with rd := false })
  | 7 => (freeAbove free d.f 7, d)
  | 8 => (d.opc, d)
  | 9 => (d.g, d)
  | 10 => (freeAbove free (d.msk.setWidth 8) 4, d)
  | 11 => (freeAbove free d.ifByte 4, d)
  | 12 => (d.dda, d)
  | 13 => (d.ddb, d)
  | 14 => (d.portA, { d with opa := d.portA })
  | 15 => (d.portB, { d with opb := d.portB })
  | _ => (free, d)

/-- A write to the controller (R332). +4 clears its divider; +6 clears TD (R334); RD and TD of the IF register are
read only (R336); unlisted offsets ignore the write. -/
def Ioc.write (d : Ioc) (reg : BitVec 4) (v : Byte) : Ioc :=
  match reg.toNat with
  | 4 => { d with divider := 0 }
  | 6 => { d with tx := v, td := false }
  | 7 => { d with f := v }
  | 8 => { d with opc := v }
  | 9 => { d with g := v }
  | 10 => { d with msk := v.setWidth 4 }
  | 11 => { d with if0 := v.getLsbD 0, if1 := v.getLsbD 1 }
  | 12 => { d with dda := v }
  | 13 => { d with ddb := v }
  | 14 => { d with opa := v }
  | 15 => { d with opb := v }
  | _ => d

/-- The registers cleared by the controller's RESET; its divider goes on, and its pins keep the levels they are driven to
(R339). -/
def Ioc.resetRegs (d : Ioc) : Ioc := { Ioc.cleared with divider := d.divider, pa := d.pa, pb := d.pb, irq := d.irq }

/-- A controller's divider runs on, by one count and the free number of further ones. -/
def Ioc.runDivider (d : Ioc) (free : Nat) : Ioc := { d with divider := d.divider + free + 1 }

/-- A CPU read cycle at a controller. -/
def State.iocRead (s : State) (u : IocUnit) (reg : BitVec 4) : Byte × State :=
  let r := (s.ioc u).read reg (Config.freeByte s.draws)
  (r.1, s.setIoc u r.2)

/-- A CPU write cycle at a controller; a byte written to +6 goes to the serial output. -/
def State.iocWrite (s : State) (u : IocUnit) (reg : BitVec 4) (v : Byte) : State :=
  let s1 := s.setIoc u ((s.ioc u).write reg v)
  if reg = 6#4 then { s1 with out := .serialOut u v :: s1.out } else s1

/-- A serial byte has been received (R336): RD is set, and U holds the byte. What U holds when the byte before it has not
been read yet the spec does not say: a free byte (DESIGN CHOICE, log 35). -/
def Ioc.receive (d : Ioc) (v free : Byte) : Ioc := { d with u := if d.rd then free else v, rd := true }

/-- What an event on a controller's pins does (R336, R339). A rising IRQ sets IF0; the edge of PB7 is seen by `setIoc`.
RESET clears IF, whatever the pins do. -/
def State.iocMove (s : State) (u : IocUnit) (m : IocMove) : State :=
  let d := s.ioc u
  match m with
  | .pins pa pb irq => s.setIoc u { d with pa := pa, pb := pb, irq := irq, if0 := d.if0 || (!d.irq && irq) }
  | .received v => s.setIoc u (d.receive v (Config.freeByte s.draws))
  | .sent => s.setIoc u { d with td := true }
  | .divider => s.setIoc u { d with divider := d.divider + 1 }
  | .reset => { s with iocs := s.iocs.put u d.resetRegs }

end Sys2Proof.Machine
end

