-- ==== Sys2Proof/Machine/Ops.lean ====
section
/-! DEFINITION. The named operations every meaning is written over: memory, the two buses, the stack, the fetch of an
instruction, taking an interrupt and returning from one, reset, and the timer. -/

namespace Sys2Proof.Machine

/-! ### Memory: a list of (cell, byte) pairs in one canonical form -/

/-- The byte of a cell; a cell that is not listed reads as `Config.unlistedByte`. -/
def Memory.read : Memory → Nat → Byte
  | [], _ => Config.unlistedByte
  | (k', v) :: rest, k => if k' = k then v else Memory.read rest k

/-- Store a byte, keeping the canonical form: writing the value an unlisted cell reads as removes the entry. -/
def Memory.write : Memory → Nat → Byte → Memory
  | [], k, v => if v = Config.unlistedByte then [] else [(k, v)]
  | (k', v') :: rest, k, v =>
    if k < k' then (if v = Config.unlistedByte then (k', v') :: rest else (k, v) :: (k', v') :: rest)
    else if k = k' then (if v = Config.unlistedByte then rest else (k, v) :: rest)
    else (k', v') :: Memory.write rest k v

/-- The canonical form: cells strictly rising, and no entry equal to what an unlisted cell reads as. -/
def Memory.wf : Memory → Bool
  | [] => true
  | (k, v) :: rest => decide (v ≠ Config.unlistedByte) && rest.all (fun e => decide (k < e.1)) && Memory.wf rest

/-! ### The memory map (20_memory.md R48, R57) -/

/-- A condition of the map on a flip-flop: `none` holds always. -/
def condHolds (want : Option Bool) (now : Bool) : Bool :=
  match want with
  | none => true
  | some b => b == now

/-- Whether a region of the map is in force and covers a bus address. -/
def Region.covers (r : Region) (s : State) (sp : Space) (a : Addr) : Bool :=
  decide (r.space = sp) && decide (r.base ≤ a.toNat) && decide (a.toNat < r.base + r.size) &&
    condHolds r.pv s.pv && condHolds r.pu s.pu && condHolds r.bf s.bf

/-- The bank a space's RAM is in where the map names none. -/
def Space.bank : Space → Nat
  | .me0 => 0
  | .me1 => 1

/-- What stands at a bus address: the first region in force that covers it, else RAM. -/
def State.resolve (s : State) (sp : Space) (a : Addr) : RegionKind :=
  match s.board.map.find? (fun r => r.covers s sp a) with
  | some r => r.kind
  | none => .ram sp.bank

/-- The memory cell of an address in a bank. -/
def cellOf (bank : Nat) (a : Addr) : Nat := 65536 * bank + a.toNat

/-- The memory cell a bus address reads from, if it holds RAM or ROM. -/
def State.readCell (s : State) (sp : Space) (a : Addr) : Option Nat :=
  match s.resolve sp a with
  | .ram k => some (cellOf k a)
  | .rom k => some (cellOf k a)
  | _ => none

/-- The memory cell a write to a bus address changes, if it holds RAM. -/
def State.ramCell (s : State) (sp : Space) (a : Addr) : Option Nat :=
  match s.resolve sp a with
  | .ram k => some (cellOf k a)
  | _ => none

/-! ### Bus cycles (20_memory.md R45, R48): every access is one byte -/

/-- `MemRead(sp:a, 1)`. RAM and ROM give their byte; an absent address gives a fresh free byte (R48, log 6); a device
the spec does not describe answers with a fresh free byte and the host sees the read. -/
def State.busRead (s : State) (sp : Space) (a : Addr) : Byte × State :=
  match s.resolve sp a with
  | .ram k => (s.mem.read (cellOf k a), s)
  | .rom k => (s.mem.read (cellOf k a), s)
  | .ioc u => s.iocRead u (a.setWidth 4)
  | .device =>
    (Config.freeByte s.draws,
      { s with draws := s.draws + 1, out := .deviceRead sp a (Config.freeByte s.draws) :: s.out })
  | .absent => (Config.freeByte s.draws, { s with draws := s.draws + 1 })
  | .fixed v => (v, s)

/-- `MemWrite(sp:a, 1, v)`. A write to ROM or to an absent address is dropped (R48). -/
def State.busWrite (s : State) (sp : Space) (a : Addr) (v : Byte) : State :=
  match s.resolve sp a with
  | .ram k => { s with mem := s.mem.write (cellOf k a) v }
  | .rom _ => s
  | .ioc u => s.iocWrite u (a.setWidth 4) v
  | .device => { s with out := .deviceWrite sp a v :: s.out }
  | .absent => s
  | .fixed _ => s

/-! ### Bytes of 16-bit values (20_memory.md R43) -/

def hiByte (w : Addr) : Byte := w.extractLsb' 8 8

def loByte (w : Addr) : Byte := w.extractLsb' 0 8

/-- `hi : lo`. -/
def ofBytes (hi lo : Byte) : Addr := hi ++ lo

/-! ### Stack (20_memory.md R43, 10_state.md R15) -/

/-- `Push(v)`: store at ME0:S, then decrement S. -/
def State.push (s : State) (v : Byte) : State :=
  let s1 := s.busWrite .me0 s.sp v
  { s1 with sp := s1.sp - 1 }

/-- `Pop()`: increment S, then read ME0:S. -/
def State.pop (s : State) : Byte × State :=
  let s1 := { s with sp := s.sp + 1 }
  s1.busRead .me0 s1.sp

/-- Push a 16-bit value: low byte first, to the higher address. -/
def State.push16 (s : State) (w : Addr) : State := (s.push (loByte w)).push (hiByte w)

/-- Pop a 16-bit value: high byte first. -/
def State.pop16 (s : State) : Addr × State :=
  let hi := s.pop
  let lo := hi.2.pop
  (ofBytes hi.1 lo.1, lo.2)

/-- Read a vector of ME0: high byte at the lower address, then the low byte (R43, R47). -/
def State.readVector (s : State) (a : Addr) : Addr × State :=
  let hi := s.busRead .me0 a
  let lo := hi.2.busRead .me0 (a + 1)
  (ofBytes hi.1 lo.1, lo.2)

/-! ### Fetch (10_state.md R13, 30_encoding.md R75) -/

/-- `Fetch()`: the byte at ME0:P; P moves on by one. -/
def State.fetch (s : State) : Byte × State :=
  let r := s.busRead .me0 s.p
  (r.1, { r.2 with p := r.2.p + 1 })

/-- Fetch `n` bytes in order. -/
def State.fetchMany : Nat → State → List Byte × State
  | 0, s => ([], s)
  | n + 1, s =>
    let b := s.fetch
    let r := fetchMany n b.2
    (b.1 :: r.1, r.2)

/-- Fetch all bytes of the instruction at P, operand bytes included, before any effect of it (R75). -/
def State.fetchBytes (s : State) : List Byte × State :=
  let b0 := s.fetch
  if b0.1 = 0xFD#8 then
    let b1 := b0.2.fetch
    let r := State.fetchMany (operandCount true b1.1) b1.2
    (b0.1 :: b1.1 :: r.1, r.2)
  else
    let r := State.fetchMany (operandCount false b0.1) b0.2
    (b0.1 :: r.1, r.2)

/-- Fetch and decode the instruction at P. -/
def State.fetchInstr (s : State) : Except DecodeError Instr × State :=
  let r := s.fetchBytes
  ((decode r.1).map (·.1), r.2)

/-! ### Interrupts (60_exceptions.md R302 to R313) -/

/-- The three interrupts. -/
inductive Interrupt where
  | nmi
  | timer
  | maskable
deriving DecidableEq, Repr

/-- The vector of an interrupt (R302). -/
def Interrupt.vector : Interrupt → Addr
  | .nmi => 0xFFFC#16
  | .timer => 0xFFFA#16
  | .maskable => 0xFFF8#16

/-- `0 -> IRn`. -/
def State.clearRequest (s : State) (n : Interrupt) : State :=
  match n with
  | .nmi => { s with ir0 := false }
  | .timer => { s with ir1 := false }
  | .maskable => { s with ir2 := false }

/-- Interrupt entry, in the order of R310, R311 and R312: push T, clear IE and the request, push P, load P from the
vector, leave the halt. -/
def State.takeInterrupt (s : State) (n : Interrupt) : State :=
  let s1 := s.push s.t
  let s2 := { s1 with ie := false }.clearRequest n
  let s3 := s2.push16 s2.p
  let r := s3.readVector n.vector
  { r.2 with p := r.1, halted := false }

/-- The interrupt the check of R313 takes, if any. -/
def State.pendingInterrupt (s : State) : Option Interrupt :=
  if s.ir0 then some .nmi
  else if s.ie && (s.ir1 || s.ir2) then
    if s.ir1 && s.ir2 then (if Config.miBeforeTimer then some .maskable else some .timer)
    else if s.ir1 then some .timer
    else some .maskable
  else none

/-- Return from subroutine: pop P (48_return.md R240). -/
def State.popP (s : State) : State :=
  let r := s.pop16
  { r.2 with p := r.1 }

/-- Return from interrupt: pop P, then T (48_return.md R241). -/
def State.returnFromInterrupt (s : State) : State :=
  let r := s.popP.pop
  r.2.setT r.1

/-! ### Reset and the timer -/

/-- The reset sequence on a machine in any condition (70_reset_and_hazards.md R400). -/
def State.resetCpu (s : State) : State :=
  let s1 := { s with ie := false, ir0 := false, ir1 := false, ir2 := false, pu := false, pv := false }
  let r := s1.readVector 0xFFFE#16
  { r.2 with p := r.1, halted := false }

/-- The recurrence of the polynomial counter (60_exceptions.md R320): shift right one place, the new bit 8 being old
bit 0 XOR old bit 4. -/
def nextTimer (tm : TimerWord) : TimerWord :=
  BitVec.ofBool (tm.getLsbD 0 ^^ tm.getLsbD 4) ++ tm.extractLsb' 1 8

/-- One timer step: reaching 1FFH sets IR1, whatever IE is (R320). -/
def State.timerStep (s : State) : State :=
  { s with tm := nextTimer s.tm, ir1 := s.ir1 || decide (nextTimer s.tm = 0x1FF#9) }

end Sys2Proof.Machine
end

