-- ==== Sys2Proof/Machine/Operands.lean ====
section
/-! DEFINITION. The operand forms of 30_encoding.md R63 and R64: the 8-bit registers, the register pairs, and the bytes
of memory a pair or an absolute address names, in either space. -/

namespace Sys2Proof.Machine

/-- The 8-bit registers an instruction can name. -/
inductive Reg8 where
  | a
  | xl
  | xh
  | yl
  | yh
  | ul
  | uh
deriving DecidableEq, Repr

/-- The register pairs X, Y, U (R63, register numbers 0, 1, 2). -/
inductive Pair where
  | x
  | y
  | u
deriving DecidableEq, Repr

def State.reg (s : State) : Reg8 → Byte
  | .a => s.a
  | .xl => s.xl
  | .xh => s.xh
  | .yl => s.yl
  | .yh => s.yh
  | .ul => s.ul
  | .uh => s.uh

def State.setReg (s : State) (r : Reg8) (v : Byte) : State :=
  match r with
  | .a => { s with a := v }
  | .xl => { s with xl := v }
  | .xh => { s with xh := v }
  | .yl => { s with yl := v }
  | .yh => { s with yh := v }
  | .ul => { s with ul := v }
  | .uh => { s with uh := v }

/-- The low half RL of a pair. -/
def Pair.lo : Pair → Reg8
  | .x => .xl
  | .y => .yl
  | .u => .ul

/-- The high half RH of a pair. -/
def Pair.hi : Pair → Reg8
  | .x => .xh
  | .y => .yh
  | .u => .uh

/-- `Rreg[r]`: the pair as 16 bits, the high byte in the H register (10_state.md R12). -/
def State.pair (s : State) (r : Pair) : Addr := ofBytes (s.reg r.hi) (s.reg r.lo)

/-- `Rreg[r] <- w`. -/
def State.setPair (s : State) (r : Pair) (w : Addr) : State :=
  (s.setReg r.hi (hiByte w)).setReg r.lo (loByte w)

/-- An 8-bit operand (R64). -/
inductive Operand where
  /-- A, RL or RH -/
  | reg (r : Reg8)
  /-- `(Rreg)` in ME0, `#(Rreg)` in ME1 -/
  | ind (sp : Space) (r : Pair)
  /-- `(ab)` in ME0, `#(ab)` in ME1 -/
  | abs (sp : Space) (a b : Byte)
deriving DecidableEq, Repr

/-- The bus address EA of a memory operand (R64). -/
def Operand.address (o : Operand) (s : State) : Option (Space × Addr) :=
  match o with
  | .reg _ => none
  | .ind sp r => some (sp, s.pair r)
  | .abs sp a b => some (sp, ofBytes a b)

/-- The value of an operand; a memory operand costs a read cycle. -/
def State.readOperand (s : State) (o : Operand) : Byte × State :=
  match o with
  | .reg r => (s.reg r, s)
  | .ind sp r => s.busRead sp (s.pair r)
  | .abs sp a b => s.busRead sp (ofBytes a b)

/-- Write an operand; a memory operand costs a write cycle. -/
def State.writeOperand (s : State) (o : Operand) (v : Byte) : State :=
  match o with
  | .reg r => s.setReg r v
  | .ind sp r => s.busWrite sp (s.pair r) v
  | .abs sp a b => s.busWrite sp (ofBytes a b) v

end Sys2Proof.Machine
end

