-- ==== Sys2Proof/Machine/Arith.lean ====
section
/-! DEFINITION. Add, subtract and logical instructions: 40_arith_logic.md R100 to R114. -/

namespace Sys2Proof.Machine

/-- `A + [operand] + C -> A` (R100). -/
def adc (o : Operand) (s : State) : Result :=
  let m := s.readOperand o
  let r := add8 m.2.a m.1 m.2.c
  .next ({ m.2 with a := r.sum }.setFlags r)

/-- `A + i + C -> A` (R101). -/
def adiA (i : Byte) (s : State) : Result :=
  let r := add8 s.a i s.c
  .next ({ s with a := r.sum }.setFlags r)

/-- `[operand] + i -> [operand]`, without carry-in (R101). -/
def adiMem (o : Operand) (i : Byte) (s : State) : Result :=
  let m := s.readOperand o
  let r := add8 m.1 i false
  .next ((m.2.writeOperand o r.sum).setFlags r)

/-- Decimal addition: the flags are those of step 2 alone (R102). -/
def dca (o : Operand) (s : State) : Result :=
  let m := s.readOperand o
  let r := add8 (m.2.a + 0x66#8) m.1 m.2.c
  .next ({ m.2 with a := r.sum + decimalAdjust r.c r.h }.setFlags r)

/-- `RL + A -> RL`, then the carry into RH, which writes no flag (R103). -/
def adr (r : Pair) (s : State) : Result :=
  let x := add8 (s.reg r.lo) s.a false
  .next (((s.setReg r.lo x.sum).setFlags x).setReg r.hi (s.reg r.hi + bitAs 8 x.c))

/-- `A + ~[operand] + C -> A` (R104). -/
def sbc (o : Operand) (s : State) : Result :=
  let m := s.readOperand o
  let r := sub8 m.2.a m.1 m.2.c
  .next ({ m.2 with a := r.sum }.setFlags r)

/-- `A + ~i + C -> A` (R105). -/
def sbiA (i : Byte) (s : State) : Result :=
  let r := sub8 s.a i s.c
  .next ({ s with a := r.sum }.setFlags r)

/-- Decimal subtraction: the flags are those of the binary step alone (R106). -/
def dcs (o : Operand) (s : State) : Result :=
  let m := s.readOperand o
  let r := sub8 m.2.a m.1 m.2.c
  .next ({ m.2 with a := r.sum + decimalAdjust r.c r.h }.setFlags r)

/-- A logical operation of A with memory, the result in A; only Z changes (R107, R109, R111). -/
def logicToA (f : Byte → Byte → Byte) (o : Operand) (s : State) : Result :=
  let m := s.readOperand o
  let r := f m.2.a m.1
  .next ({ m.2 with a := r }.setZ r)

/-- A logical operation of A with an immediate (R108, R110, R112). -/
def logicImmA (f : Byte → Byte → Byte) (i : Byte) (s : State) : Result :=
  .next ({ s with a := f s.a i }.setZ (f s.a i))

/-- A logical operation of a memory byte with an immediate, written back (R108, R110). -/
def logicImmMem (f : Byte → Byte → Byte) (o : Operand) (i : Byte) (s : State) : Result :=
  let m := s.readOperand o
  .next ((m.2.writeOperand o (f m.1 i)).setZ (f m.1 i))

/-- Increment of an 8-bit register: the adder with 01H and no carry-in (R113). -/
def inc8 (r : Reg8) (s : State) : Result :=
  let x := add8 (s.reg r) 0x01#8 false
  .next ((s.setReg r x.sum).setFlags x)

/-- Decrement of an 8-bit register: the adder with FFH and no carry-in (R114). -/
def dec8 (r : Reg8) (s : State) : Result :=
  let x := add8 (s.reg r) 0xFF#8 false
  .next ((s.setReg r x.sum).setFlags x)

/-- Increment of a pair; no flag (R113). -/
def inc16 (r : Pair) (s : State) : Result := .next (s.setPair r (s.pair r + 1))

/-- Decrement of a pair; no flag (R114). -/
def dec16 (r : Pair) (s : State) : Result := .next (s.setPair r (s.pair r - 1))

/-- ADC XL: `02` (R100). -/
def execAdcXl (s : State) : Result := adc (.reg .xl) s

/-- ADC (X): `03` (R100). -/
def execAdcIndX (s : State) : Result := adc (.ind .me0 .x) s

/-- ADC YL: `12` (R100). -/
def execAdcYl (s : State) : Result := adc (.reg .yl) s

/-- ADC (Y): `13` (R100). -/
def execAdcIndY (s : State) : Result := adc (.ind .me0 .y) s

/-- ADC UL: `22` (R100). -/
def execAdcUl (s : State) : Result := adc (.reg .ul) s

/-- ADC (U): `23` (R100). -/
def execAdcIndU (s : State) : Result := adc (.ind .me0 .u) s

/-- ADC XH: `82` (R100). -/
def execAdcXh (s : State) : Result := adc (.reg .xh) s

/-- ADC YH: `92` (R100). -/
def execAdcYh (s : State) : Result := adc (.reg .yh) s

/-- ADC UH: `A2` (R100). -/
def execAdcUh (s : State) : Result := adc (.reg .uh) s

/-- ADC (ab): `A3 a b` (R100). -/
def execAdcAbs (a b : Byte) (s : State) : Result := adc (.abs .me0 a b) s

/-- ADC #(X): `FD 03` (R100). -/
def execAdcInd1X (s : State) : Result := adc (.ind .me1 .x) s

/-- ADC #(Y): `FD 13` (R100). -/
def execAdcInd1Y (s : State) : Result := adc (.ind .me1 .y) s

/-- ADC #(U): `FD 23` (R100). -/
def execAdcInd1U (s : State) : Result := adc (.ind .me1 .u) s

/-- ADC #(ab): `FD A3 a b` (R100). -/
def execAdcAbs1 (a b : Byte) (s : State) : Result := adc (.abs .me1 a b) s

/-- ADI (X),i: `4F i` (R101). -/
def execAdiIndX (i : Byte) (s : State) : Result := adiMem (.ind .me0 .x) i s

/-- ADI (Y),i: `5F i` (R101). -/
def execAdiIndY (i : Byte) (s : State) : Result := adiMem (.ind .me0 .y) i s

/-- ADI (U),i: `6F i` (R101). -/
def execAdiIndU (i : Byte) (s : State) : Result := adiMem (.ind .me0 .u) i s

/-- ADI A,i: `B3 i` (R101). -/
def execAdiA (i : Byte) (s : State) : Result := adiA i s

/-- ADI (ab),i: `EF a b i` (R101). -/
def execAdiAbs (a b i : Byte) (s : State) : Result := adiMem (.abs .me0 a b) i s

/-- ADI #(X),i: `FD 4F i` (R101). -/
def execAdiInd1X (i : Byte) (s : State) : Result := adiMem (.ind .me1 .x) i s

/-- ADI #(Y),i: `FD 5F i` (R101). -/
def execAdiInd1Y (i : Byte) (s : State) : Result := adiMem (.ind .me1 .y) i s

/-- ADI #(U),i: `FD 6F i` (R101). -/
def execAdiInd1U (i : Byte) (s : State) : Result := adiMem (.ind .me1 .u) i s

/-- ADI #(ab),i: `FD EF a b i` (R101). -/
def execAdiAbs1 (a b i : Byte) (s : State) : Result := adiMem (.abs .me1 a b) i s

/-- DCA (X): `8C` (R102). -/
def execDcaIndX (s : State) : Result := dca (.ind .me0 .x) s

/-- DCA (Y): `9C` (R102). -/
def execDcaIndY (s : State) : Result := dca (.ind .me0 .y) s

/-- DCA (U): `AC` (R102). -/
def execDcaIndU (s : State) : Result := dca (.ind .me0 .u) s

/-- DCA #(X): `FD 8C` (R102). -/
def execDcaInd1X (s : State) : Result := dca (.ind .me1 .x) s

/-- DCA #(Y): `FD 9C` (R102). -/
def execDcaInd1Y (s : State) : Result := dca (.ind .me1 .y) s

/-- DCA #(U): `FD AC` (R102). -/
def execDcaInd1U (s : State) : Result := dca (.ind .me1 .u) s

/-- ADR X: `FD CA` (R103). -/
def execAdrX (s : State) : Result := adr .x s

/-- ADR Y: `FD DA` (R103). -/
def execAdrY (s : State) : Result := adr .y s

/-- ADR U: `FD EA` (R103). -/
def execAdrU (s : State) : Result := adr .u s

/-- SBC XL: `00` (R104). -/
def execSbcXl (s : State) : Result := sbc (.reg .xl) s

/-- SBC (X): `01` (R104). -/
def execSbcIndX (s : State) : Result := sbc (.ind .me0 .x) s

/-- SBC YL: `10` (R104). -/
def execSbcYl (s : State) : Result := sbc (.reg .yl) s

/-- SBC (Y): `11` (R104). -/
def execSbcIndY (s : State) : Result := sbc (.ind .me0 .y) s

/-- SBC UL: `20` (R104). -/
def execSbcUl (s : State) : Result := sbc (.reg .ul) s

/-- SBC (U): `21` (R104). -/
def execSbcIndU (s : State) : Result := sbc (.ind .me0 .u) s

/-- SBC XH: `80` (R104). -/
def execSbcXh (s : State) : Result := sbc (.reg .xh) s

/-- SBC YH: `90` (R104). -/
def execSbcYh (s : State) : Result := sbc (.reg .yh) s

/-- SBC UH: `A0` (R104). -/
def execSbcUh (s : State) : Result := sbc (.reg .uh) s

/-- SBC (ab): `A1 a b` (R104). -/
def execSbcAbs (a b : Byte) (s : State) : Result := sbc (.abs .me0 a b) s

/-- SBC #(X): `FD 01` (R104). -/
def execSbcInd1X (s : State) : Result := sbc (.ind .me1 .x) s

/-- SBC #(Y): `FD 11` (R104). -/
def execSbcInd1Y (s : State) : Result := sbc (.ind .me1 .y) s

/-- SBC #(U): `FD 21` (R104). -/
def execSbcInd1U (s : State) : Result := sbc (.ind .me1 .u) s

/-- SBC #(ab): `FD A1 a b` (R104). -/
def execSbcAbs1 (a b : Byte) (s : State) : Result := sbc (.abs .me1 a b) s

/-- SBI A,i: `B1 i` (R105). -/
def execSbiA (i : Byte) (s : State) : Result := sbiA i s

/-- DCS (X): `0C` (R106). -/
def execDcsIndX (s : State) : Result := dcs (.ind .me0 .x) s

/-- DCS (Y): `1C` (R106). -/
def execDcsIndY (s : State) : Result := dcs (.ind .me0 .y) s

/-- DCS (U): `2C` (R106). -/
def execDcsIndU (s : State) : Result := dcs (.ind .me0 .u) s

/-- DCS #(X): `FD 0C` (R106). -/
def execDcsInd1X (s : State) : Result := dcs (.ind .me1 .x) s

/-- DCS #(Y): `FD 1C` (R106). -/
def execDcsInd1Y (s : State) : Result := dcs (.ind .me1 .y) s

/-- DCS #(U): `FD 2C` (R106). -/
def execDcsInd1U (s : State) : Result := dcs (.ind .me1 .u) s

/-- AND (X): `09` (R107). -/
def execAndIndX (s : State) : Result := logicToA (· &&& ·) (.ind .me0 .x) s

/-- AND (Y): `19` (R107). -/
def execAndIndY (s : State) : Result := logicToA (· &&& ·) (.ind .me0 .y) s

/-- AND (U): `29` (R107). -/
def execAndIndU (s : State) : Result := logicToA (· &&& ·) (.ind .me0 .u) s

/-- AND (ab): `A9 a b` (R107). -/
def execAndAbs (a b : Byte) (s : State) : Result := logicToA (· &&& ·) (.abs .me0 a b) s

/-- AND #(X): `FD 09` (R107). -/
def execAndInd1X (s : State) : Result := logicToA (· &&& ·) (.ind .me1 .x) s

/-- AND #(Y): `FD 19` (R107). -/
def execAndInd1Y (s : State) : Result := logicToA (· &&& ·) (.ind .me1 .y) s

/-- AND #(U): `FD 29` (R107). -/
def execAndInd1U (s : State) : Result := logicToA (· &&& ·) (.ind .me1 .u) s

/-- AND #(ab): `FD A9 a b` (R107). -/
def execAndAbs1 (a b : Byte) (s : State) : Result := logicToA (· &&& ·) (.abs .me1 a b) s

/-- ANI (X),i: `49 i` (R108). -/
def execAniIndX (i : Byte) (s : State) : Result := logicImmMem (· &&& ·) (.ind .me0 .x) i s

/-- ANI (Y),i: `59 i` (R108). -/
def execAniIndY (i : Byte) (s : State) : Result := logicImmMem (· &&& ·) (.ind .me0 .y) i s

/-- ANI (U),i: `69 i` (R108). -/
def execAniIndU (i : Byte) (s : State) : Result := logicImmMem (· &&& ·) (.ind .me0 .u) i s

/-- ANI A,i: `B9 i` (R108). -/
def execAniA (i : Byte) (s : State) : Result := logicImmA (· &&& ·) i s

/-- ANI (ab),i: `E9 a b i` (R108). -/
def execAniAbs (a b i : Byte) (s : State) : Result := logicImmMem (· &&& ·) (.abs .me0 a b) i s

/-- ANI #(X),i: `FD 49 i` (R108). -/
def execAniInd1X (i : Byte) (s : State) : Result := logicImmMem (· &&& ·) (.ind .me1 .x) i s

/-- ANI #(Y),i: `FD 59 i` (R108). -/
def execAniInd1Y (i : Byte) (s : State) : Result := logicImmMem (· &&& ·) (.ind .me1 .y) i s

/-- ANI #(U),i: `FD 69 i` (R108). -/
def execAniInd1U (i : Byte) (s : State) : Result := logicImmMem (· &&& ·) (.ind .me1 .u) i s

/-- ANI #(ab),i: `FD E9 a b i` (R108). -/
def execAniAbs1 (a b i : Byte) (s : State) : Result := logicImmMem (· &&& ·) (.abs .me1 a b) i s

/-- ORA (X): `0B` (R109). -/
def execOraIndX (s : State) : Result := logicToA (· ||| ·) (.ind .me0 .x) s

/-- ORA (Y): `1B` (R109). -/
def execOraIndY (s : State) : Result := logicToA (· ||| ·) (.ind .me0 .y) s

/-- ORA (U): `2B` (R109). -/
def execOraIndU (s : State) : Result := logicToA (· ||| ·) (.ind .me0 .u) s

/-- ORA (ab): `AB a b` (R109). -/
def execOraAbs (a b : Byte) (s : State) : Result := logicToA (· ||| ·) (.abs .me0 a b) s

/-- ORA #(X): `FD 0B` (R109). -/
def execOraInd1X (s : State) : Result := logicToA (· ||| ·) (.ind .me1 .x) s

/-- ORA #(Y): `FD 1B` (R109). -/
def execOraInd1Y (s : State) : Result := logicToA (· ||| ·) (.ind .me1 .y) s

/-- ORA #(U): `FD 2B` (R109). -/
def execOraInd1U (s : State) : Result := logicToA (· ||| ·) (.ind .me1 .u) s

/-- ORA #(ab): `FD AB a b` (R109). -/
def execOraAbs1 (a b : Byte) (s : State) : Result := logicToA (· ||| ·) (.abs .me1 a b) s

/-- ORI (X),i: `4B i` (R110). -/
def execOriIndX (i : Byte) (s : State) : Result := logicImmMem (· ||| ·) (.ind .me0 .x) i s

/-- ORI (Y),i: `5B i` (R110). -/
def execOriIndY (i : Byte) (s : State) : Result := logicImmMem (· ||| ·) (.ind .me0 .y) i s

/-- ORI (U),i: `6B i` (R110). -/
def execOriIndU (i : Byte) (s : State) : Result := logicImmMem (· ||| ·) (.ind .me0 .u) i s

/-- ORI A,i: `BB i` (R110). -/
def execOriA (i : Byte) (s : State) : Result := logicImmA (· ||| ·) i s

/-- ORI (ab),i: `EB a b i` (R110). -/
def execOriAbs (a b i : Byte) (s : State) : Result := logicImmMem (· ||| ·) (.abs .me0 a b) i s

/-- ORI #(X),i: `FD 4B i` (R110). -/
def execOriInd1X (i : Byte) (s : State) : Result := logicImmMem (· ||| ·) (.ind .me1 .x) i s

/-- ORI #(Y),i: `FD 5B i` (R110). -/
def execOriInd1Y (i : Byte) (s : State) : Result := logicImmMem (· ||| ·) (.ind .me1 .y) i s

/-- ORI #(U),i: `FD 6B i` (R110). -/
def execOriInd1U (i : Byte) (s : State) : Result := logicImmMem (· ||| ·) (.ind .me1 .u) i s

/-- ORI #(ab),i: `FD EB a b i` (R110). -/
def execOriAbs1 (a b i : Byte) (s : State) : Result := logicImmMem (· ||| ·) (.abs .me1 a b) i s

/-- EOR (X): `0D` (R111). -/
def execEorIndX (s : State) : Result := logicToA (· ^^^ ·) (.ind .me0 .x) s

/-- EOR (Y): `1D` (R111). -/
def execEorIndY (s : State) : Result := logicToA (· ^^^ ·) (.ind .me0 .y) s

/-- EOR (U): `2D` (R111). -/
def execEorIndU (s : State) : Result := logicToA (· ^^^ ·) (.ind .me0 .u) s

/-- EOR (ab): `AD a b` (R111). -/
def execEorAbs (a b : Byte) (s : State) : Result := logicToA (· ^^^ ·) (.abs .me0 a b) s

/-- EOR #(X): `FD 0D` (R111). -/
def execEorInd1X (s : State) : Result := logicToA (· ^^^ ·) (.ind .me1 .x) s

/-- EOR #(Y): `FD 1D` (R111). -/
def execEorInd1Y (s : State) : Result := logicToA (· ^^^ ·) (.ind .me1 .y) s

/-- EOR #(U): `FD 2D` (R111). -/
def execEorInd1U (s : State) : Result := logicToA (· ^^^ ·) (.ind .me1 .u) s

/-- EOR #(ab): `FD AD a b` (R111). -/
def execEorAbs1 (a b : Byte) (s : State) : Result := logicToA (· ^^^ ·) (.abs .me1 a b) s

/-- EAI i: `BD i` (R112). -/
def execEai (i : Byte) (s : State) : Result := logicImmA (· ^^^ ·) i s

/-- INC XL: `40` (R113). -/
def execIncXl (s : State) : Result := inc8 .xl s

/-- INC X: `44` (R113). -/
def execIncX (s : State) : Result := inc16 .x s

/-- INC YL: `50` (R113). -/
def execIncYl (s : State) : Result := inc8 .yl s

/-- INC Y: `54` (R113). -/
def execIncY (s : State) : Result := inc16 .y s

/-- INC UL: `60` (R113). -/
def execIncUl (s : State) : Result := inc8 .ul s

/-- INC U: `64` (R113). -/
def execIncU (s : State) : Result := inc16 .u s

/-- INC A: `DD` (R113). -/
def execIncA (s : State) : Result := inc8 .a s

/-- INC XH: `FD 40` (R113). -/
def execIncXh (s : State) : Result := inc8 .xh s

/-- INC YH: `FD 50` (R113). -/
def execIncYh (s : State) : Result := inc8 .yh s

/-- INC UH: `FD 60` (R113). -/
def execIncUh (s : State) : Result := inc8 .uh s

/-- DEC XL: `42` (R114). -/
def execDecXl (s : State) : Result := dec8 .xl s

/-- DEC X: `46` (R114). -/
def execDecX (s : State) : Result := dec16 .x s

/-- DEC YL: `52` (R114). -/
def execDecYl (s : State) : Result := dec8 .yl s

/-- DEC Y: `56` (R114). -/
def execDecY (s : State) : Result := dec16 .y s

/-- DEC UL: `62` (R114). -/
def execDecUl (s : State) : Result := dec8 .ul s

/-- DEC U: `66` (R114). -/
def execDecU (s : State) : Result := dec16 .u s

/-- DEC A: `DF` (R114). -/
def execDecA (s : State) : Result := dec8 .a s

/-- DEC XH: `FD 42` (R114). -/
def execDecXh (s : State) : Result := dec8 .xh s

/-- DEC YH: `FD 52` (R114). -/
def execDecYh (s : State) : Result := dec8 .yh s

/-- DEC UH: `FD 62` (R114). -/
def execDecUh (s : State) : Result := dec8 .uh s

end Sys2Proof.Machine
end

