-- ==== Sys2Proof/Machine/Block.lean ====
section
/-! DEFINITION. Block transfer and search: 43_block.md R150, R151. -/

namespace Sys2Proof.Machine

/-- `(X) -> (Y)`, then X and Y move up by one (R150). -/
def tin (s : State) : Result :=
  let m := s.readOperand (.ind .me0 .x)
  let s1 := m.2.writeOperand (.ind .me0 .y) m.1
  let s2 := s1.setPair .x (s1.pair .x + 1)
  .next (s2.setPair .y (s2.pair .y + 1))

/-- Compare A with `(X)` as CPA does, then X moves up by one (R151). -/
def cin (s : State) : Result :=
  let m := s.readOperand (.ind .me0 .x)
  .next ((m.2.setFlags (sub8 m.2.a m.1 true)).setPair .x (m.2.pair .x + 1))

/-- TIN: `F5` (R150). -/
def execTin (s : State) : Result := tin s

/-- CIN: `F7` (R151). -/
def execCin (s : State) : Result := cin s

end Sys2Proof.Machine
end

