-- ==== Sys2Proof/Machine/Call.lean ====
section
/-! DEFINITION. Subroutine calls: 47_subroutine.md R220 to R229. P already holds the return address. -/

namespace Sys2Proof.Machine

/-- `VectorCall(i)`: push P, load P from FF00H + i, reset Z (head of 47_subroutine.md). -/
def State.vectorCall (s : State) (i : Byte) : State :=
  let r := (s.push16 s.p).readVector (ofBytes 0xFF#8 i)
  { r.2 with p := r.1, z := false }

/-- The operand values the manual allows: even, 00H to F6H (R222). -/
def vectorOperandOk (i : Byte) : Bool := decide (i.toNat % 2 = 0) && decide (i.toNat ≤ 0xF6)

/-- A vector call if the condition holds; a call that would be made with a reserved operand stops (R222 to R229). -/
def vectorCallIf (cond : Bool) (i : Byte) (s : State) : Result :=
  if cond then
    if vectorOperandOk i then .next (s.vectorCall i) else .fault (.reservedOperand i)
  else .next s

/-- SJP i,j: `BE i j` (R220). -/
def execSjp (i j : Byte) (s : State) : Result := .next { s.push16 s.p with p := ofBytes i j }

/-- VEJ C0H: `C0` (R221). -/
def execVejC0 (s : State) : Result := .next (s.vectorCall 0xC0#8)

/-- VEJ C2H: `C2` (R221). -/
def execVejC2 (s : State) : Result := .next (s.vectorCall 0xC2#8)

/-- VEJ C4H: `C4` (R221). -/
def execVejC4 (s : State) : Result := .next (s.vectorCall 0xC4#8)

/-- VEJ C6H: `C6` (R221). -/
def execVejC6 (s : State) : Result := .next (s.vectorCall 0xC6#8)

/-- VEJ C8H: `C8` (R221). -/
def execVejC8 (s : State) : Result := .next (s.vectorCall 0xC8#8)

/-- VEJ CAH: `CA` (R221). -/
def execVejCA (s : State) : Result := .next (s.vectorCall 0xCA#8)

/-- VEJ CCH: `CC` (R221). -/
def execVejCC (s : State) : Result := .next (s.vectorCall 0xCC#8)

/-- VEJ CEH: `CE` (R221). -/
def execVejCE (s : State) : Result := .next (s.vectorCall 0xCE#8)

/-- VEJ D0H: `D0` (R221). -/
def execVejD0 (s : State) : Result := .next (s.vectorCall 0xD0#8)

/-- VEJ D2H: `D2` (R221). -/
def execVejD2 (s : State) : Result := .next (s.vectorCall 0xD2#8)

/-- VEJ D4H: `D4` (R221). -/
def execVejD4 (s : State) : Result := .next (s.vectorCall 0xD4#8)

/-- VEJ D6H: `D6` (R221). -/
def execVejD6 (s : State) : Result := .next (s.vectorCall 0xD6#8)

/-- VEJ D8H: `D8` (R221). -/
def execVejD8 (s : State) : Result := .next (s.vectorCall 0xD8#8)

/-- VEJ DAH: `DA` (R221). -/
def execVejDA (s : State) : Result := .next (s.vectorCall 0xDA#8)

/-- VEJ DCH: `DC` (R221). -/
def execVejDC (s : State) : Result := .next (s.vectorCall 0xDC#8)

/-- VEJ DEH: `DE` (R221). -/
def execVejDE (s : State) : Result := .next (s.vectorCall 0xDE#8)

/-- VEJ E0H: `E0` (R221). -/
def execVejE0 (s : State) : Result := .next (s.vectorCall 0xE0#8)

/-- VEJ E2H: `E2` (R221). -/
def execVejE2 (s : State) : Result := .next (s.vectorCall 0xE2#8)

/-- VEJ E4H: `E4` (R221). -/
def execVejE4 (s : State) : Result := .next (s.vectorCall 0xE4#8)

/-- VEJ E6H: `E6` (R221). -/
def execVejE6 (s : State) : Result := .next (s.vectorCall 0xE6#8)

/-- VEJ E8H: `E8` (R221). -/
def execVejE8 (s : State) : Result := .next (s.vectorCall 0xE8#8)

/-- VEJ EAH: `EA` (R221). -/
def execVejEA (s : State) : Result := .next (s.vectorCall 0xEA#8)

/-- VEJ ECH: `EC` (R221). -/
def execVejEC (s : State) : Result := .next (s.vectorCall 0xEC#8)

/-- VEJ EEH: `EE` (R221). -/
def execVejEE (s : State) : Result := .next (s.vectorCall 0xEE#8)

/-- VEJ F0H: `F0` (R221). -/
def execVejF0 (s : State) : Result := .next (s.vectorCall 0xF0#8)

/-- VEJ F2H: `F2` (R221). -/
def execVejF2 (s : State) : Result := .next (s.vectorCall 0xF2#8)

/-- VEJ F4H: `F4` (R221). -/
def execVejF4 (s : State) : Result := .next (s.vectorCall 0xF4#8)

/-- VEJ F6H: `F6` (R221). -/
def execVejF6 (s : State) : Result := .next (s.vectorCall 0xF6#8)

/-- VMJ i: `CD i` (R222). -/
def execVmj (i : Byte) (s : State) : Result := vectorCallIf true i s

/-- VCS i: `C3 i` (R223). -/
def execVcs (i : Byte) (s : State) : Result := vectorCallIf s.c i s

/-- VCR i: `C1 i` (R224). -/
def execVcr (i : Byte) (s : State) : Result := vectorCallIf (!s.c) i s

/-- VHS i: `C7 i` (R225). -/
def execVhs (i : Byte) (s : State) : Result := vectorCallIf s.h i s

/-- VHR i: `C5 i` (R226). -/
def execVhr (i : Byte) (s : State) : Result := vectorCallIf (!s.h) i s

/-- VZS i: `CB i` (R227). -/
def execVzs (i : Byte) (s : State) : Result := vectorCallIf s.z i s

/-- VZR i: `C9 i` (R228). -/
def execVzr (i : Byte) (s : State) : Result := vectorCallIf (!s.z) i s

/-- VVS i: `CF i` (R229). -/
def execVvs (i : Byte) (s : State) : Result := vectorCallIf s.v i s

end Sys2Proof.Machine
end

