-- ==== Sys2Proof/Machine/Compare.lean ====
section
/-! DEFINITION. Compare and bit test: 41_compare_bittest.md R120 to R123. No register but T changes. -/

namespace Sys2Proof.Machine

/-- `A + ~[operand] + 1`, the result discarded (R120). -/
def cpa (o : Operand) (s : State) : Result :=
  let m := s.readOperand o
  .next (m.2.setFlags (sub8 m.2.a m.1 true))

/-- `[register] + ~i + 1`, the result discarded (R121). -/
def cpi (r : Reg8) (i : Byte) (s : State) : Result :=
  .next (s.setFlags (sub8 (s.reg r) i true))

/-- Z from `A AND [operand]` (R122). -/
def bit (o : Operand) (s : State) : Result :=
  let m := s.readOperand o
  .next (m.2.setZ (m.2.a &&& m.1))

/-- Z from `[operand] AND i` (R123). -/
def bii (o : Operand) (i : Byte) (s : State) : Result :=
  let m := s.readOperand o
  .next (m.2.setZ (m.1 &&& i))

/-- CPA XL: `06` (R120). -/
def execCpaXl (s : State) : Result := cpa (.reg .xl) s

/-- CPA (X): `07` (R120). -/
def execCpaIndX (s : State) : Result := cpa (.ind .me0 .x) s

/-- CPA YL: `16` (R120). -/
def execCpaYl (s : State) : Result := cpa (.reg .yl) s

/-- CPA (Y): `17` (R120). -/
def execCpaIndY (s : State) : Result := cpa (.ind .me0 .y) s

/-- CPA UL: `26` (R120). -/
def execCpaUl (s : State) : Result := cpa (.reg .ul) s

/-- CPA (U): `27` (R120). -/
def execCpaIndU (s : State) : Result := cpa (.ind .me0 .u) s

/-- CPA XH: `86` (R120). -/
def execCpaXh (s : State) : Result := cpa (.reg .xh) s

/-- CPA YH: `96` (R120). -/
def execCpaYh (s : State) : Result := cpa (.reg .yh) s

/-- CPA UH: `A6` (R120). -/
def execCpaUh (s : State) : Result := cpa (.reg .uh) s

/-- CPA (ab): `A7 a b` (R120). -/
def execCpaAbs (a b : Byte) (s : State) : Result := cpa (.abs .me0 a b) s

/-- CPA #(X): `FD 07` (R120). -/
def execCpaInd1X (s : State) : Result := cpa (.ind .me1 .x) s

/-- CPA #(Y): `FD 17` (R120). -/
def execCpaInd1Y (s : State) : Result := cpa (.ind .me1 .y) s

/-- CPA #(U): `FD 27` (R120). -/
def execCpaInd1U (s : State) : Result := cpa (.ind .me1 .u) s

/-- CPA #(ab): `FD A7 a b` (R120). -/
def execCpaAbs1 (a b : Byte) (s : State) : Result := cpa (.abs .me1 a b) s

/-- CPI XH,i: `4C i` (R121). -/
def execCpiXh (i : Byte) (s : State) : Result := cpi .xh i s

/-- CPI XL,i: `4E i` (R121). -/
def execCpiXl (i : Byte) (s : State) : Result := cpi .xl i s

/-- CPI YH,i: `5C i` (R121). -/
def execCpiYh (i : Byte) (s : State) : Result := cpi .yh i s

/-- CPI YL,i: `5E i` (R121). -/
def execCpiYl (i : Byte) (s : State) : Result := cpi .yl i s

/-- CPI UH,i: `6C i` (R121). -/
def execCpiUh (i : Byte) (s : State) : Result := cpi .uh i s

/-- CPI UL,i: `6E i` (R121). -/
def execCpiUl (i : Byte) (s : State) : Result := cpi .ul i s

/-- CPI A,i: `B7 i` (R121). -/
def execCpiA (i : Byte) (s : State) : Result := cpi .a i s

/-- BIT (X): `0F` (R122). -/
def execBitIndX (s : State) : Result := bit (.ind .me0 .x) s

/-- BIT (Y): `1F` (R122). -/
def execBitIndY (s : State) : Result := bit (.ind .me0 .y) s

/-- BIT (U): `2F` (R122). -/
def execBitIndU (s : State) : Result := bit (.ind .me0 .u) s

/-- BIT (ab): `AF a b` (R122). -/
def execBitAbs (a b : Byte) (s : State) : Result := bit (.abs .me0 a b) s

/-- BIT #(X): `FD 0F` (R122). -/
def execBitInd1X (s : State) : Result := bit (.ind .me1 .x) s

/-- BIT #(Y): `FD 1F` (R122). -/
def execBitInd1Y (s : State) : Result := bit (.ind .me1 .y) s

/-- BIT #(U): `FD 2F` (R122). -/
def execBitInd1U (s : State) : Result := bit (.ind .me1 .u) s

/-- BIT #(ab): `FD AF a b` (R122). -/
def execBitAbs1 (a b : Byte) (s : State) : Result := bit (.abs .me1 a b) s

/-- BII (X),i: `4D i` (R123). -/
def execBiiIndX (i : Byte) (s : State) : Result := bii (.ind .me0 .x) i s

/-- BII (Y),i: `5D i` (R123). -/
def execBiiIndY (i : Byte) (s : State) : Result := bii (.ind .me0 .y) i s

/-- BII (U),i: `6D i` (R123). -/
def execBiiIndU (i : Byte) (s : State) : Result := bii (.ind .me0 .u) i s

/-- BII A,i: `BF i` (R123). -/
def execBiiA (i : Byte) (s : State) : Result := bii (.reg .a) i s

/-- BII (ab),i: `ED a b i` (R123). -/
def execBiiAbs (a b i : Byte) (s : State) : Result := bii (.abs .me0 a b) i s

/-- BII #(X),i: `FD 4D i` (R123). -/
def execBiiInd1X (i : Byte) (s : State) : Result := bii (.ind .me1 .x) i s

/-- BII #(Y),i: `FD 5D i` (R123). -/
def execBiiInd1Y (i : Byte) (s : State) : Result := bii (.ind .me1 .y) i s

/-- BII #(U),i: `FD 6D i` (R123). -/
def execBiiInd1U (i : Byte) (s : State) : Result := bii (.ind .me1 .u) i s

/-- BII #(ab),i: `FD ED a b i` (R123). -/
def execBiiAbs1 (a b i : Byte) (s : State) : Result := bii (.abs .me1 a b) i s

end Sys2Proof.Machine
end

