-- ==== Sys2Proof/Machine/Control.lean ====
section
/-! DEFINITION. CPU control: 45_cpu_control.md R170 to R187. -/

namespace Sys2Proof.Machine

/-- `Host.PortOut(A)`, the address bus carrying X (R173); where the board wires PhiP to a controller, its OPC register
latches the data bus (60_exceptions.md R333, log 27). -/
def atp (s : State) : Result :=
  let s1 := { s with out := .portOut s.a (s.pair .x) :: s.out }
  .next (s1.latchPorts s1.board.phiLatch)

/-- `1 : A -> TM`. Loading 1FFH itself leaves IR1 its old value OR a free bit (R184, log 11). -/
def am1 (s : State) : Result :=
  let s1 := { s with tm := 1#1 ++ s.a }
  .next (if s.a = 0xFF#8 then { s1 with ir1 := s1.ir1 || Config.freeBit s1.draws, draws := s1.draws + 1 } else s1)

/-- SEC: `FB` (R170). -/
def execSecC (s : State) : Result := .next { s with c := true }

/-- REC: `F9` (R171). -/
def execRecC (s : State) : Result := .next { s with c := false }

/-- CDV: `FD 8E` (R172). -/
def execCdv (s : State) : Result := .next { s with divider := 0 }

/-- ATP: `FD CC` (R173). -/
def execAtp (s : State) : Result := atp s

/-- SPU: `E1` (R174). -/
def execSpu (s : State) : Result := .next { s with pu := true }

/-- RPU: `E3` (R175). -/
def execRpu (s : State) : Result := .next { s with pu := false }

/-- SPV: `A8` (R176). -/
def execSpv (s : State) : Result := .next { s with pv := true }

/-- RPV: `B8` (R177). -/
def execRpv (s : State) : Result := .next { s with pv := false }

/-- SDP: `FD C1` (R178). -/
def execSdp (s : State) : Result := .next { s with disp := true }

/-- RDP: `FD C0` (R179). -/
def execRdp (s : State) : Result := .next { s with disp := false }

/-- ITA: `FD BA` (R180). -/
def execIta (s : State) : Result := .next ({ s with a := s.inPins }.setZ s.inPins)

/-- SIE: `FD 81` (R181). -/
def execSie (s : State) : Result := .next { s with ie := true }

/-- RIE: `FD BE` (R182). -/
def execRie (s : State) : Result := .next { s with ie := false }

/-- AM0: `FD CE` (R183). -/
def execAm0 (s : State) : Result := .next { s with tm := 0#1 ++ s.a }

/-- AM1: `FD DE` (R184). -/
def execAm1 (s : State) : Result := am1 s

/-- NOP: `38` (R185). -/
def execNop (s : State) : Result := .next s

/-- HLT: `FD B1` (R186). -/
def execHlt (s : State) : Result := .next { s with halted := true }

/-- OFF: `FD 4C` (R187). -/
def execOff (s : State) : Result := .next { s with bf := false, out := .bfo true :: s.out }

end Sys2Proof.Machine
end

