-- ==== Sys2Proof/Machine/Jump.lean ====
section
/-! DEFINITION. Jumps: 46_jump.md R200 to R210. P already holds the address after the instruction; a branch distance is
an unsigned byte (30_encoding.md R66, R67). -/

namespace Sys2Proof.Machine

/-- `P + i -> P` if the condition holds (opcode bit 4 = 0). -/
def branchForward (cond : Bool) (i : Byte) (s : State) : Result :=
  .next (if cond then { s with p := s.p + i.setWidth 16 } else s)

/-- `P - i -> P` if the condition holds (opcode bit 4 = 1). -/
def branchBack (cond : Bool) (i : Byte) (s : State) : Result :=
  .next (if cond then { s with p := s.p - i.setWidth 16 } else s)

/-- `UL - 1 -> UL`; while there is no borrow, `P - i -> P`; no flag (R210). -/
def lop (i : Byte) (s : State) : Result :=
  let s1 := { s with ul := s.ul - 1 }
  .next (if s.ul = 0#8 then s1 else { s1 with p := s1.p - i.setWidth 16 })

/-- JMP i,j: `BA i j` (R200). -/
def execJmp (i j : Byte) (s : State) : Result := .next { s with p := ofBytes i j }

/-- BCH +i: `8E i` (R201). -/
def execBchFwd (i : Byte) (s : State) : Result := branchForward true i s

/-- BCH -i: `9E i` (R201). -/
def execBchBack (i : Byte) (s : State) : Result := branchBack true i s

/-- BCS +i: `83 i` (R202). -/
def execBcsFwd (i : Byte) (s : State) : Result := branchForward s.c i s

/-- BCS -i: `93 i` (R202). -/
def execBcsBack (i : Byte) (s : State) : Result := branchBack s.c i s

/-- BCR +i: `81 i` (R203). -/
def execBcrFwd (i : Byte) (s : State) : Result := branchForward (!s.c) i s

/-- BCR -i: `91 i` (R203). -/
def execBcrBack (i : Byte) (s : State) : Result := branchBack (!s.c) i s

/-- BHS +i: `87 i` (R204). -/
def execBhsFwd (i : Byte) (s : State) : Result := branchForward s.h i s

/-- BHS -i: `97 i` (R204). -/
def execBhsBack (i : Byte) (s : State) : Result := branchBack s.h i s

/-- BHR +i: `85 i` (R205). -/
def execBhrFwd (i : Byte) (s : State) : Result := branchForward (!s.h) i s

/-- BHR -i: `95 i` (R205). -/
def execBhrBack (i : Byte) (s : State) : Result := branchBack (!s.h) i s

/-- BZS +i: `8B i` (R206). -/
def execBzsFwd (i : Byte) (s : State) : Result := branchForward s.z i s

/-- BZS -i: `9B i` (R206). -/
def execBzsBack (i : Byte) (s : State) : Result := branchBack s.z i s

/-- BZR +i: `89 i` (R207). -/
def execBzrFwd (i : Byte) (s : State) : Result := branchForward (!s.z) i s

/-- BZR -i: `99 i` (R207). -/
def execBzrBack (i : Byte) (s : State) : Result := branchBack (!s.z) i s

/-- BVS +i: `8F i` (R208). -/
def execBvsFwd (i : Byte) (s : State) : Result := branchForward s.v i s

/-- BVS -i: `9F i` (R208). -/
def execBvsBack (i : Byte) (s : State) : Result := branchBack s.v i s

/-- BVR +i: `8D i` (R209). -/
def execBvrFwd (i : Byte) (s : State) : Result := branchForward (!s.v) i s

/-- BVR -i: `9D i` (R209). -/
def execBvrBack (i : Byte) (s : State) : Result := branchBack (!s.v) i s

/-- LOP UL,i: `88 i` (R210). -/
def execLop (i : Byte) (s : State) : Result := lop i s

end Sys2Proof.Machine
end

