-- ==== Sys2Proof/Machine/Return.lean ====
section
/-! DEFINITION. Returns: 48_return.md R240, R241. -/

namespace Sys2Proof.Machine

/-- RTN: `9A` (R240). -/
def execRtn (s : State) : Result := .next s.popP

/-- RTI: `8A` (R241). -/
def execRti (s : State) : Result := .next s.returnFromInterrupt

end Sys2Proof.Machine
end

