-- ==== Sys2Proof/Machine/Rotate.lean ====
section
/-! DEFINITION. Rotates and shifts: 44_rotate_shift.md R160 to R167. -/

namespace Sys2Proof.Machine

/-- A rotate or shift of A: the new A, the bit shifted out into C, and H, V, Z free (R160 to R163, R167). -/
def shiftA (out : Bool) (v : Byte) (s : State) : Result := .next ({ s with a := v }.setShiftFlags out)

/-- Digit rotate left between A and the byte at X (R164; 90_conflicts.md C2). -/
def drl (sp : Space) (s : State) : Result :=
  let m := s.readOperand (.ind sp .x)
  let s1 := m.2.writeOperand (.ind sp .x) (m.1.extractLsb' 0 4 ++ m.2.a.extractLsb' 4 4)
  .next { s1 with a := m.1 }

/-- Digit rotate right between A and the byte at X (R165). -/
def drr (sp : Space) (s : State) : Result :=
  let m := s.readOperand (.ind sp .x)
  let s1 := m.2.writeOperand (.ind sp .x) (m.2.a.extractLsb' 0 4 ++ m.1.extractLsb' 4 4)
  .next { s1 with a := m.1 }

/-- ROL: `DB` (R160). -/
def execRol (s : State) : Result := shiftA (s.a.getLsbD 7) (s.a.extractLsb' 0 7 ++ BitVec.ofBool s.c) s

/-- ROR: `D1` (R161). -/
def execRor (s : State) : Result := shiftA (s.a.getLsbD 0) (BitVec.ofBool s.c ++ s.a.extractLsb' 1 7) s

/-- SHL: `D9` (R162). -/
def execShl (s : State) : Result := shiftA (s.a.getLsbD 7) (s.a.extractLsb' 0 7 ++ 0#1) s

/-- SHR: `D5` (R163). -/
def execShr (s : State) : Result := shiftA (s.a.getLsbD 0) (0#1 ++ s.a.extractLsb' 1 7) s

/-- DRL (X): `D7` (R164). -/
def execDrlIndX (s : State) : Result := drl .me0 s

/-- DRL #(X): `FD D7` (R164). -/
def execDrlInd1X (s : State) : Result := drl .me1 s

/-- DRR (X): `D3` (R165). -/
def execDrrIndX (s : State) : Result := drr .me0 s

/-- DRR #(X): `FD D3` (R165). -/
def execDrrInd1X (s : State) : Result := drr .me1 s

/-- AEX: `F1` (R166). -/
def execAex (s : State) : Result := .next { s with a := s.a.extractLsb' 0 4 ++ s.a.extractLsb' 4 4 }

end Sys2Proof.Machine
end

