-- ==== Sys2Proof/Machine/Transfer.lean ====
section
/-! DEFINITION. Transfer instructions: 42_transfer.md R130 to R142. -/

namespace Sys2Proof.Machine

/-- `[operand] -> A`; Z from the byte (R130). -/
def lda (o : Operand) (s : State) : Result :=
  let m := s.readOperand o
  .next ({ m.2 with a := m.1 }.setZ m.1)

/-- `(Rreg) -> A`, then the pair moves by `d`; Z from the byte (R131, R132). -/
def loadStep (r : Pair) (d : Addr) (s : State) : Result :=
  let m := s.readOperand (.ind .me0 r)
  .next (({ m.2 with a := m.1 }.setPair r (m.2.pair r + d)).setZ m.1)

/-- `i -> A`; Z from the byte (R133). -/
def ldiA (i : Byte) (s : State) : Result := .next ({ s with a := i }.setZ i)

/-- `A -> [operand]`; no flag (R135). -/
def sta (o : Operand) (s : State) : Result := .next (s.writeOperand o s.a)

/-- `A -> (Rreg)`, then the pair moves by `d`; no flag (R136, R137). -/
def storeStep (r : Pair) (d : Addr) (s : State) : Result :=
  let s1 := s.writeOperand (.ind .me0 r) s.a
  .next (s1.setPair r (s1.pair r + d))

/-- `Pop() -> A`; Z from the byte (R140). -/
def popA (s : State) : Result :=
  let m := s.pop
  .next ({ m.2 with a := m.1 }.setZ m.1)

/-- Pop RH, then RL; no flag (R140). -/
def popPair (r : Pair) (s : State) : Result :=
  let m := s.pop16
  .next (m.2.setPair r m.1)

/-- LDA XL: `04` (R130). -/
def execLdaXl (s : State) : Result := lda (.reg .xl) s

/-- LDA (X): `05` (R130). -/
def execLdaIndX (s : State) : Result := lda (.ind .me0 .x) s

/-- LDA YL: `14` (R130). -/
def execLdaYl (s : State) : Result := lda (.reg .yl) s

/-- LDA (Y): `15` (R130). -/
def execLdaIndY (s : State) : Result := lda (.ind .me0 .y) s

/-- LDA UL: `24` (R130). -/
def execLdaUl (s : State) : Result := lda (.reg .ul) s

/-- LDA (U): `25` (R130). -/
def execLdaIndU (s : State) : Result := lda (.ind .me0 .u) s

/-- LDA XH: `84` (R130). -/
def execLdaXh (s : State) : Result := lda (.reg .xh) s

/-- LDA YH: `94` (R130). -/
def execLdaYh (s : State) : Result := lda (.reg .yh) s

/-- LDA UH: `A4` (R130). -/
def execLdaUh (s : State) : Result := lda (.reg .uh) s

/-- LDA (ab): `A5 a b` (R130). -/
def execLdaAbs (a b : Byte) (s : State) : Result := lda (.abs .me0 a b) s

/-- LDA #(X): `FD 05` (R130). -/
def execLdaInd1X (s : State) : Result := lda (.ind .me1 .x) s

/-- LDA #(Y): `FD 15` (R130). -/
def execLdaInd1Y (s : State) : Result := lda (.ind .me1 .y) s

/-- LDA #(U): `FD 25` (R130). -/
def execLdaInd1U (s : State) : Result := lda (.ind .me1 .u) s

/-- LDA #(ab): `FD A5 a b` (R130). -/
def execLdaAbs1 (a b : Byte) (s : State) : Result := lda (.abs .me1 a b) s

/-- LDE X: `47` (R131). -/
def execLdeX (s : State) : Result := loadStep .x (-1) s

/-- LDE Y: `57` (R131). -/
def execLdeY (s : State) : Result := loadStep .y (-1) s

/-- LDE U: `67` (R131). -/
def execLdeU (s : State) : Result := loadStep .u (-1) s

/-- LIN X: `45` (R132). -/
def execLinX (s : State) : Result := loadStep .x 1 s

/-- LIN Y: `55` (R132). -/
def execLinY (s : State) : Result := loadStep .y 1 s

/-- LIN U: `65` (R132). -/
def execLinU (s : State) : Result := loadStep .u 1 s

/-- LDI XH,i: `48 i` (R133). -/
def execLdiXh (i : Byte) (s : State) : Result := .next (s.setReg .xh i)

/-- LDI XL,i: `4A i` (R133). -/
def execLdiXl (i : Byte) (s : State) : Result := .next (s.setReg .xl i)

/-- LDI YH,i: `58 i` (R133). -/
def execLdiYh (i : Byte) (s : State) : Result := .next (s.setReg .yh i)

/-- LDI YL,i: `5A i` (R133). -/
def execLdiYl (i : Byte) (s : State) : Result := .next (s.setReg .yl i)

/-- LDI UH,i: `68 i` (R133). -/
def execLdiUh (i : Byte) (s : State) : Result := .next (s.setReg .uh i)

/-- LDI UL,i: `6A i` (R133). -/
def execLdiUl (i : Byte) (s : State) : Result := .next (s.setReg .ul i)

/-- LDI S,i,j: `AA i j` (R133). -/
def execLdiS (i j : Byte) (s : State) : Result := .next { s with sp := ofBytes i j }

/-- LDI A,i: `B5 i` (R133). -/
def execLdiA (i : Byte) (s : State) : Result := ldiA i s

/-- LDX X: `FD 08` (R134). -/
def execLdxX (s : State) : Result := .next (s.setPair .x (s.pair .x))

/-- LDX Y: `FD 18` (R134). -/
def execLdxY (s : State) : Result := .next (s.setPair .x (s.pair .y))

/-- LDX U: `FD 28` (R134). -/
def execLdxU (s : State) : Result := .next (s.setPair .x (s.pair .u))

/-- LDX S: `FD 48` (R134). -/
def execLdxS (s : State) : Result := .next (s.setPair .x s.sp)

/-- LDX P: `FD 58` (R134). -/
def execLdxP (s : State) : Result := .next (s.setPair .x s.p)

/-- STA XH: `08` (R135). -/
def execStaXh (s : State) : Result := sta (.reg .xh) s

/-- STA XL: `0A` (R135). -/
def execStaXl (s : State) : Result := sta (.reg .xl) s

/-- STA (X): `0E` (R135). -/
def execStaIndX (s : State) : Result := sta (.ind .me0 .x) s

/-- STA YH: `18` (R135). -/
def execStaYh (s : State) : Result := sta (.reg .yh) s

/-- STA YL: `1A` (R135). -/
def execStaYl (s : State) : Result := sta (.reg .yl) s

/-- STA (Y): `1E` (R135). -/
def execStaIndY (s : State) : Result := sta (.ind .me0 .y) s

/-- STA UH: `28` (R135). -/
def execStaUh (s : State) : Result := sta (.reg .uh) s

/-- STA UL: `2A` (R135). -/
def execStaUl (s : State) : Result := sta (.reg .ul) s

/-- STA (U): `2E` (R135). -/
def execStaIndU (s : State) : Result := sta (.ind .me0 .u) s

/-- STA (ab): `AE a b` (R135). -/
def execStaAbs (a b : Byte) (s : State) : Result := sta (.abs .me0 a b) s

/-- STA #(X): `FD 0E` (R135). -/
def execStaInd1X (s : State) : Result := sta (.ind .me1 .x) s

/-- STA #(Y): `FD 1E` (R135). -/
def execStaInd1Y (s : State) : Result := sta (.ind .me1 .y) s

/-- STA #(U): `FD 2E` (R135). -/
def execStaInd1U (s : State) : Result := sta (.ind .me1 .u) s

/-- STA #(ab): `FD AE a b` (R135). -/
def execStaAbs1 (a b : Byte) (s : State) : Result := sta (.abs .me1 a b) s

/-- SDE X: `43` (R136). -/
def execSdeX (s : State) : Result := storeStep .x (-1) s

/-- SDE Y: `53` (R136). -/
def execSdeY (s : State) : Result := storeStep .y (-1) s

/-- SDE U: `63` (R136). -/
def execSdeU (s : State) : Result := storeStep .u (-1) s

/-- SIN X: `41` (R137). -/
def execSinX (s : State) : Result := storeStep .x 1 s

/-- SIN Y: `51` (R137). -/
def execSinY (s : State) : Result := storeStep .y 1 s

/-- SIN U: `61` (R137). -/
def execSinU (s : State) : Result := storeStep .u 1 s

/-- STX X: `FD 4A` (R138). -/
def execStxX (s : State) : Result := .next (s.setPair .x (s.pair .x))

/-- STX S: `FD 4E` (R138). -/
def execStxS (s : State) : Result := .next { s with sp := s.pair .x }

/-- STX Y: `FD 5A` (R138). -/
def execStxY (s : State) : Result := .next (s.setPair .y (s.pair .x))

/-- STX P: `FD 5E` (R138). -/
def execStxP (s : State) : Result := .next { s with p := s.pair .x }

/-- STX U: `FD 6A` (R138). -/
def execStxU (s : State) : Result := .next (s.setPair .u (s.pair .x))

/-- PSH X: `FD 88` (R139). -/
def execPshX (s : State) : Result := .next (s.push16 (s.pair .x))

/-- PSH Y: `FD 98` (R139). -/
def execPshY (s : State) : Result := .next (s.push16 (s.pair .y))

/-- PSH U: `FD A8` (R139). -/
def execPshU (s : State) : Result := .next (s.push16 (s.pair .u))

/-- PSH A: `FD C8` (R139). -/
def execPshA (s : State) : Result := .next (s.push s.a)

/-- POP X: `FD 0A` (R140). -/
def execPopX (s : State) : Result := popPair .x s

/-- POP Y: `FD 1A` (R140). -/
def execPopY (s : State) : Result := popPair .y s

/-- POP U: `FD 2A` (R140). -/
def execPopU (s : State) : Result := popPair .u s

/-- POP A: `FD 8A` (R140). -/
def execPopA (s : State) : Result := popA s

/-- ATT: `FD EC` (R141). -/
def execAtt (s : State) : Result := .next (s.setT s.a)

/-- TTA: `FD AA` (R142). -/
def execTta (s : State) : Result := .next ({ s with a := s.t }.setZ s.t)

end Sys2Proof.Machine
end

