-- ==== Sys2Proof/Machine/Dispatch.lean ====
section
/-! DEFINITION. One arm for each constructor of `Instr`: what executing the instruction does. P already holds the
address of the byte after the instruction (30_encoding.md R67). In the arms `n` and `m` are the bytes `i` and `j`. -/

namespace Sys2Proof.Machine

def exec (i : Instr) (s : State) : Host.Outcome State Fault Refusal :=
  match i with
  | .adcXl => Sys2Proof.Machine.execAdcXl s
  | .adcIndX => Sys2Proof.Machine.execAdcIndX s
  | .adcYl => Sys2Proof.Machine.execAdcYl s
  | .adcIndY => Sys2Proof.Machine.execAdcIndY s
  | .adcUl => Sys2Proof.Machine.execAdcUl s
  | .adcIndU => Sys2Proof.Machine.execAdcIndU s
  | .adcXh => Sys2Proof.Machine.execAdcXh s
  | .adcYh => Sys2Proof.Machine.execAdcYh s
  | .adcUh => Sys2Proof.Machine.execAdcUh s
  | .adcAbs a b => Sys2Proof.Machine.execAdcAbs a b s
  | .adcInd1X => Sys2Proof.Machine.execAdcInd1X s
  | .adcInd1Y => Sys2Proof.Machine.execAdcInd1Y s
  | .adcInd1U => Sys2Proof.Machine.execAdcInd1U s
  | .adcAbs1 a b => Sys2Proof.Machine.execAdcAbs1 a b s
  | .adiIndX n => Sys2Proof.Machine.execAdiIndX n s
  | .adiIndY n => Sys2Proof.Machine.execAdiIndY n s
  | .adiIndU n => Sys2Proof.Machine.execAdiIndU n s
  | .adiA n => Sys2Proof.Machine.execAdiA n s
  | .adiAbs a b n => Sys2Proof.Machine.execAdiAbs a b n s
  | .adiInd1X n => Sys2Proof.Machine.execAdiInd1X n s
  | .adiInd1Y n => Sys2Proof.Machine.execAdiInd1Y n s
  | .adiInd1U n => Sys2Proof.Machine.execAdiInd1U n s
  | .adiAbs1 a b n => Sys2Proof.Machine.execAdiAbs1 a b n s
  | .dcaIndX => Sys2Proof.Machine.execDcaIndX s
  | .dcaIndY => Sys2Proof.Machine.execDcaIndY s
  | .dcaIndU => Sys2Proof.Machine.execDcaIndU s
  | .dcaInd1X => Sys2Proof.Machine.execDcaInd1X s
  | .dcaInd1Y => Sys2Proof.Machine.execDcaInd1Y s
  | .dcaInd1U => Sys2Proof.Machine.execDcaInd1U s
  | .adrX => Sys2Proof.Machine.execAdrX s
  | .adrY => Sys2Proof.Machine.execAdrY s
  | .adrU => Sys2Proof.Machine.execAdrU s
  | .sbcXl => Sys2Proof.Machine.execSbcXl s
  | .sbcIndX => Sys2Proof.Machine.execSbcIndX s
  | .sbcYl => Sys2Proof.Machine.execSbcYl s
  | .sbcIndY => Sys2Proof.Machine.execSbcIndY s
  | .sbcUl => Sys2Proof.Machine.execSbcUl s
  | .sbcIndU => Sys2Proof.Machine.execSbcIndU s
  | .sbcXh => Sys2Proof.Machine.execSbcXh s
  | .sbcYh => Sys2Proof.Machine.execSbcYh s
  | .sbcUh => Sys2Proof.Machine.execSbcUh s
  | .sbcAbs a b => Sys2Proof.Machine.execSbcAbs a b s
  | .sbcInd1X => Sys2Proof.Machine.execSbcInd1X s
  | .sbcInd1Y => Sys2Proof.Machine.execSbcInd1Y s
  | .sbcInd1U => Sys2Proof.Machine.execSbcInd1U s
  | .sbcAbs1 a b => Sys2Proof.Machine.execSbcAbs1 a b s
  | .sbiA n => Sys2Proof.Machine.execSbiA n s
  | .dcsIndX => Sys2Proof.Machine.execDcsIndX s
  | .dcsIndY => Sys2Proof.Machine.execDcsIndY s
  | .dcsIndU => Sys2Proof.Machine.execDcsIndU s
  | .dcsInd1X => Sys2Proof.Machine.execDcsInd1X s
  | .dcsInd1Y => Sys2Proof.Machine.execDcsInd1Y s
  | .dcsInd1U => Sys2Proof.Machine.execDcsInd1U s
  | .andIndX => Sys2Proof.Machine.execAndIndX s
  | .andIndY => Sys2Proof.Machine.execAndIndY s
  | .andIndU => Sys2Proof.Machine.execAndIndU s
  | .andAbs a b => Sys2Proof.Machine.execAndAbs a b s
  | .andInd1X => Sys2Proof.Machine.execAndInd1X s
  | .andInd1Y => Sys2Proof.Machine.execAndInd1Y s
  | .andInd1U => Sys2Proof.Machine.execAndInd1U s
  | .andAbs1 a b => Sys2Proof.Machine.execAndAbs1 a b s
  | .aniIndX n => Sys2Proof.Machine.execAniIndX n s
  | .aniIndY n => Sys2Proof.Machine.execAniIndY n s
  | .aniIndU n => Sys2Proof.Machine.execAniIndU n s
  | .aniA n => Sys2Proof.Machine.execAniA n s
  | .aniAbs a b n => Sys2Proof.Machine.execAniAbs a b n s
  | .aniInd1X n => Sys2Proof.Machine.execAniInd1X n s
  | .aniInd1Y n => Sys2Proof.Machine.execAniInd1Y n s
  | .aniInd1U n => Sys2Proof.Machine.execAniInd1U n s
  | .aniAbs1 a b n => Sys2Proof.Machine.execAniAbs1 a b n s
  | .oraIndX => Sys2Proof.Machine.execOraIndX s
  | .oraIndY => Sys2Proof.Machine.execOraIndY s
  | .oraIndU => Sys2Proof.Machine.execOraIndU s
  | .oraAbs a b => Sys2Proof.Machine.execOraAbs a b s
  | .oraInd1X => Sys2Proof.Machine.execOraInd1X s
  | .oraInd1Y => Sys2Proof.Machine.execOraInd1Y s
  | .oraInd1U => Sys2Proof.Machine.execOraInd1U s
  | .oraAbs1 a b => Sys2Proof.Machine.execOraAbs1 a b s
  | .oriIndX n => Sys2Proof.Machine.execOriIndX n s
  | .oriIndY n => Sys2Proof.Machine.execOriIndY n s
  | .oriIndU n => Sys2Proof.Machine.execOriIndU n s
  | .oriA n => Sys2Proof.Machine.execOriA n s
  | .oriAbs a b n => Sys2Proof.Machine.execOriAbs a b n s
  | .oriInd1X n => Sys2Proof.Machine.execOriInd1X n s
  | .oriInd1Y n => Sys2Proof.Machine.execOriInd1Y n s
  | .oriInd1U n => Sys2Proof.Machine.execOriInd1U n s
  | .oriAbs1 a b n => Sys2Proof.Machine.execOriAbs1 a b n s
  | .eorIndX => Sys2Proof.Machine.execEorIndX s
  | .eorIndY => Sys2Proof.Machine.execEorIndY s
  | .eorIndU => Sys2Proof.Machine.execEorIndU s
  | .eorAbs a b => Sys2Proof.Machine.execEorAbs a b s
  | .eorInd1X => Sys2Proof.Machine.execEorInd1X s
  | .eorInd1Y => Sys2Proof.Machine.execEorInd1Y s
  | .eorInd1U => Sys2Proof.Machine.execEorInd1U s
  | .eorAbs1 a b => Sys2Proof.Machine.execEorAbs1 a b s
  | .eai n => Sys2Proof.Machine.execEai n s
  | .incXl => Sys2Proof.Machine.execIncXl s
  | .incX => Sys2Proof.Machine.execIncX s
  | .incYl => Sys2Proof.Machine.execIncYl s
  | .incY => Sys2Proof.Machine.execIncY s
  | .incUl => Sys2Proof.Machine.execIncUl s
  | .incU => Sys2Proof.Machine.execIncU s
  | .incA => Sys2Proof.Machine.execIncA s
  | .incXh => Sys2Proof.Machine.execIncXh s
  | .incYh => Sys2Proof.Machine.execIncYh s
  | .incUh => Sys2Proof.Machine.execIncUh s
  | .decXl => Sys2Proof.Machine.execDecXl s
  | .decX => Sys2Proof.Machine.execDecX s
  | .decYl => Sys2Proof.Machine.execDecYl s
  | .decY => Sys2Proof.Machine.execDecY s
  | .decUl => Sys2Proof.Machine.execDecUl s
  | .decU => Sys2Proof.Machine.execDecU s
  | .decA => Sys2Proof.Machine.execDecA s
  | .decXh => Sys2Proof.Machine.execDecXh s
  | .decYh => Sys2Proof.Machine.execDecYh s
  | .decUh => Sys2Proof.Machine.execDecUh s
  | .cpaXl => Sys2Proof.Machine.execCpaXl s
  | .cpaIndX => Sys2Proof.Machine.execCpaIndX s
  | .cpaYl => Sys2Proof.Machine.execCpaYl s
  | .cpaIndY => Sys2Proof.Machine.execCpaIndY s
  | .cpaUl => Sys2Proof.Machine.execCpaUl s
  | .cpaIndU => Sys2Proof.Machine.execCpaIndU s
  | .cpaXh => Sys2Proof.Machine.execCpaXh s
  | .cpaYh => Sys2Proof.Machine.execCpaYh s
  | .cpaUh => Sys2Proof.Machine.execCpaUh s
  | .cpaAbs a b => Sys2Proof.Machine.execCpaAbs a b s
  | .cpaInd1X => Sys2Proof.Machine.execCpaInd1X s
  | .cpaInd1Y => Sys2Proof.Machine.execCpaInd1Y s
  | .cpaInd1U => Sys2Proof.Machine.execCpaInd1U s
  | .cpaAbs1 a b => Sys2Proof.Machine.execCpaAbs1 a b s
  | .cpiXh n => Sys2Proof.Machine.execCpiXh n s
  | .cpiXl n => Sys2Proof.Machine.execCpiXl n s
  | .cpiYh n => Sys2Proof.Machine.execCpiYh n s
  | .cpiYl n => Sys2Proof.Machine.execCpiYl n s
  | .cpiUh n => Sys2Proof.Machine.execCpiUh n s
  | .cpiUl n => Sys2Proof.Machine.execCpiUl n s
  | .cpiA n => Sys2Proof.Machine.execCpiA n s
  | .bitIndX => Sys2Proof.Machine.execBitIndX s
  | .bitIndY => Sys2Proof.Machine.execBitIndY s
  | .bitIndU => Sys2Proof.Machine.execBitIndU s
  | .bitAbs a b => Sys2Proof.Machine.execBitAbs a b s
  | .bitInd1X => Sys2Proof.Machine.execBitInd1X s
  | .bitInd1Y => Sys2Proof.Machine.execBitInd1Y s
  | .bitInd1U => Sys2Proof.Machine.execBitInd1U s
  | .bitAbs1 a b => Sys2Proof.Machine.execBitAbs1 a b s
  | .biiIndX n => Sys2Proof.Machine.execBiiIndX n s
  | .biiIndY n => Sys2Proof.Machine.execBiiIndY n s
  | .biiIndU n => Sys2Proof.Machine.execBiiIndU n s
  | .biiA n => Sys2Proof.Machine.execBiiA n s
  | .biiAbs a b n => Sys2Proof.Machine.execBiiAbs a b n s
  | .biiInd1X n => Sys2Proof.Machine.execBiiInd1X n s
  | .biiInd1Y n => Sys2Proof.Machine.execBiiInd1Y n s
  | .biiInd1U n => Sys2Proof.Machine.execBiiInd1U n s
  | .biiAbs1 a b n => Sys2Proof.Machine.execBiiAbs1 a b n s
  | .ldaXl => Sys2Proof.Machine.execLdaXl s
  | .ldaIndX => Sys2Proof.Machine.execLdaIndX s
  | .ldaYl => Sys2Proof.Machine.execLdaYl s
  | .ldaIndY => Sys2Proof.Machine.execLdaIndY s
  | .ldaUl => Sys2Proof.Machine.execLdaUl s
  | .ldaIndU => Sys2Proof.Machine.execLdaIndU s
  | .ldaXh => Sys2Proof.Machine.execLdaXh s
  | .ldaYh => Sys2Proof.Machine.execLdaYh s
  | .ldaUh => Sys2Proof.Machine.execLdaUh s
  | .ldaAbs a b => Sys2Proof.Machine.execLdaAbs a b s
  | .ldaInd1X => Sys2Proof.Machine.execLdaInd1X s
  | .ldaInd1Y => Sys2Proof.Machine.execLdaInd1Y s
  | .ldaInd1U => Sys2Proof.Machine.execLdaInd1U s
  | .ldaAbs1 a b => Sys2Proof.Machine.execLdaAbs1 a b s
  | .ldeX => Sys2Proof.Machine.execLdeX s
  | .ldeY => Sys2Proof.Machine.execLdeY s
  | .ldeU => Sys2Proof.Machine.execLdeU s
  | .linX => Sys2Proof.Machine.execLinX s
  | .linY => Sys2Proof.Machine.execLinY s
  | .linU => Sys2Proof.Machine.execLinU s
  | .ldiXh n => Sys2Proof.Machine.execLdiXh n s
  | .ldiXl n => Sys2Proof.Machine.execLdiXl n s
  | .ldiYh n => Sys2Proof.Machine.execLdiYh n s
  | .ldiYl n => Sys2Proof.Machine.execLdiYl n s
  | .ldiUh n => Sys2Proof.Machine.execLdiUh n s
  | .ldiUl n => Sys2Proof.Machine.execLdiUl n s
  | .ldiS n m => Sys2Proof.Machine.execLdiS n m s
  | .ldiA n => Sys2Proof.Machine.execLdiA n s
  | .ldxX => Sys2Proof.Machine.execLdxX s
  | .ldxY => Sys2Proof.Machine.execLdxY s
  | .ldxU => Sys2Proof.Machine.execLdxU s
  | .ldxS => Sys2Proof.Machine.execLdxS s
  | .ldxP => Sys2Proof.Machine.execLdxP s
  | .staXh => Sys2Proof.Machine.execStaXh s
  | .staXl => Sys2Proof.Machine.execStaXl s
  | .staIndX => Sys2Proof.Machine.execStaIndX s
  | .staYh => Sys2Proof.Machine.execStaYh s
  | .staYl => Sys2Proof.Machine.execStaYl s
  | .staIndY => Sys2Proof.Machine.execStaIndY s
  | .staUh => Sys2Proof.Machine.execStaUh s
  | .staUl => Sys2Proof.Machine.execStaUl s
  | .staIndU => Sys2Proof.Machine.execStaIndU s
  | .staAbs a b => Sys2Proof.Machine.execStaAbs a b s
  | .staInd1X => Sys2Proof.Machine.execStaInd1X s
  | .staInd1Y => Sys2Proof.Machine.execStaInd1Y s
  | .staInd1U => Sys2Proof.Machine.execStaInd1U s
  | .staAbs1 a b => Sys2Proof.Machine.execStaAbs1 a b s
  | .sdeX => Sys2Proof.Machine.execSdeX s
  | .sdeY => Sys2Proof.Machine.execSdeY s
  | .sdeU => Sys2Proof.Machine.execSdeU s
  | .sinX => Sys2Proof.Machine.execSinX s
  | .sinY => Sys2Proof.Machine.execSinY s
  | .sinU => Sys2Proof.Machine.execSinU s
  | .stxX => Sys2Proof.Machine.execStxX s
  | .stxS => Sys2Proof.Machine.execStxS s
  | .stxY => Sys2Proof.Machine.execStxY s
  | .stxP => Sys2Proof.Machine.execStxP s
  | .stxU => Sys2Proof.Machine.execStxU s
  | .pshX => Sys2Proof.Machine.execPshX s
  | .pshY => Sys2Proof.Machine.execPshY s
  | .pshU => Sys2Proof.Machine.execPshU s
  | .pshA => Sys2Proof.Machine.execPshA s
  | .popX => Sys2Proof.Machine.execPopX s
  | .popY => Sys2Proof.Machine.execPopY s
  | .popU => Sys2Proof.Machine.execPopU s
  | .popA => Sys2Proof.Machine.execPopA s
  | .att => Sys2Proof.Machine.execAtt s
  | .tta => Sys2Proof.Machine.execTta s
  | .tin => Sys2Proof.Machine.execTin s
  | .cin => Sys2Proof.Machine.execCin s
  | .rol => Sys2Proof.Machine.execRol s
  | .ror => Sys2Proof.Machine.execRor s
  | .shl => Sys2Proof.Machine.execShl s
  | .shr => Sys2Proof.Machine.execShr s
  | .drlIndX => Sys2Proof.Machine.execDrlIndX s
  | .drlInd1X => Sys2Proof.Machine.execDrlInd1X s
  | .drrIndX => Sys2Proof.Machine.execDrrIndX s
  | .drrInd1X => Sys2Proof.Machine.execDrrInd1X s
  | .aex => Sys2Proof.Machine.execAex s
  | .secC => Sys2Proof.Machine.execSecC s
  | .recC => Sys2Proof.Machine.execRecC s
  | .cdv => Sys2Proof.Machine.execCdv s
  | .atp => Sys2Proof.Machine.execAtp s
  | .spu => Sys2Proof.Machine.execSpu s
  | .rpu => Sys2Proof.Machine.execRpu s
  | .spv => Sys2Proof.Machine.execSpv s
  | .rpv => Sys2Proof.Machine.execRpv s
  | .sdp => Sys2Proof.Machine.execSdp s
  | .rdp => Sys2Proof.Machine.execRdp s
  | .ita => Sys2Proof.Machine.execIta s
  | .sie => Sys2Proof.Machine.execSie s
  | .rie => Sys2Proof.Machine.execRie s
  | .am0 => Sys2Proof.Machine.execAm0 s
  | .am1 => Sys2Proof.Machine.execAm1 s
  | .nop => Sys2Proof.Machine.execNop s
  | .hlt => Sys2Proof.Machine.execHlt s
  | .off => Sys2Proof.Machine.execOff s
  | .jmp n m => Sys2Proof.Machine.execJmp n m s
  | .bchFwd n => Sys2Proof.Machine.execBchFwd n s
  | .bchBack n => Sys2Proof.Machine.execBchBack n s
  | .bcsFwd n => Sys2Proof.Machine.execBcsFwd n s
  | .bcsBack n => Sys2Proof.Machine.execBcsBack n s
  | .bcrFwd n => Sys2Proof.Machine.execBcrFwd n s
  | .bcrBack n => Sys2Proof.Machine.execBcrBack n s
  | .bhsFwd n => Sys2Proof.Machine.execBhsFwd n s
  | .bhsBack n => Sys2Proof.Machine.execBhsBack n s
  | .bhrFwd n => Sys2Proof.Machine.execBhrFwd n s
  | .bhrBack n => Sys2Proof.Machine.execBhrBack n s
  | .bzsFwd n => Sys2Proof.Machine.execBzsFwd n s
  | .bzsBack n => Sys2Proof.Machine.execBzsBack n s
  | .bzrFwd n => Sys2Proof.Machine.execBzrFwd n s
  | .bzrBack n => Sys2Proof.Machine.execBzrBack n s
  | .bvsFwd n => Sys2Proof.Machine.execBvsFwd n s
  | .bvsBack n => Sys2Proof.Machine.execBvsBack n s
  | .bvrFwd n => Sys2Proof.Machine.execBvrFwd n s
  | .bvrBack n => Sys2Proof.Machine.execBvrBack n s
  | .lop n => Sys2Proof.Machine.execLop n s
  | .sjp n m => Sys2Proof.Machine.execSjp n m s
  | .vejC0 => Sys2Proof.Machine.execVejC0 s
  | .vejC2 => Sys2Proof.Machine.execVejC2 s
  | .vejC4 => Sys2Proof.Machine.execVejC4 s
  | .vejC6 => Sys2Proof.Machine.execVejC6 s
  | .vejC8 => Sys2Proof.Machine.execVejC8 s
  | .vejCA => Sys2Proof.Machine.execVejCA s
  | .vejCC => Sys2Proof.Machine.execVejCC s
  | .vejCE => Sys2Proof.Machine.execVejCE s
  | .vejD0 => Sys2Proof.Machine.execVejD0 s
  | .vejD2 => Sys2Proof.Machine.execVejD2 s
  | .vejD4 => Sys2Proof.Machine.execVejD4 s
  | .vejD6 => Sys2Proof.Machine.execVejD6 s
  | .vejD8 => Sys2Proof.Machine.execVejD8 s
  | .vejDA => Sys2Proof.Machine.execVejDA s
  | .vejDC => Sys2Proof.Machine.execVejDC s
  | .vejDE => Sys2Proof.Machine.execVejDE s
  | .vejE0 => Sys2Proof.Machine.execVejE0 s
  | .vejE2 => Sys2Proof.Machine.execVejE2 s
  | .vejE4 => Sys2Proof.Machine.execVejE4 s
  | .vejE6 => Sys2Proof.Machine.execVejE6 s
  | .vejE8 => Sys2Proof.Machine.execVejE8 s
  | .vejEA => Sys2Proof.Machine.execVejEA s
  | .vejEC => Sys2Proof.Machine.execVejEC s
  | .vejEE => Sys2Proof.Machine.execVejEE s
  | .vejF0 => Sys2Proof.Machine.execVejF0 s
  | .vejF2 => Sys2Proof.Machine.execVejF2 s
  | .vejF4 => Sys2Proof.Machine.execVejF4 s
  | .vejF6 => Sys2Proof.Machine.execVejF6 s
  | .vmj n => Sys2Proof.Machine.execVmj n s
  | .vcs n => Sys2Proof.Machine.execVcs n s
  | .vcr n => Sys2Proof.Machine.execVcr n s
  | .vhs n => Sys2Proof.Machine.execVhs n s
  | .vhr n => Sys2Proof.Machine.execVhr n s
  | .vzs n => Sys2Proof.Machine.execVzs n s
  | .vzr n => Sys2Proof.Machine.execVzr n s
  | .vvs n => Sys2Proof.Machine.execVvs n s
  | .rtn => Sys2Proof.Machine.execRtn s
  | .rti => Sys2Proof.Machine.execRti s

end Sys2Proof.Machine
end

