-- ==== Sys2Proof/Machine/Environment.lean ====
section
/-! DEFINITION. What the agents other than the CPU do: the timer, the divider, the pins of 10_state.md R32, and the pins
of the I/O port controller. Each move falls between two CPU steps (00_scope.md R8, log 9). -/

namespace Sys2Proof.Machine

/-- The CPU's divider runs on (10_state.md R29), and each controller's (60_exceptions.md R332): by at least one count, how
many more nothing says (log 32). -/
def State.runDividers (s : State) : State :=
  let free := Config.dividerCounts s.draws
  { s with
    divider := s.divider + free 0 + 1
    iocs :=
      { builtIn := s.iocs.builtIn.runDivider (free 1)
        ce150 := s.iocs.ce150.runDivider (free 2)
        ce153 := s.iocs.ce153.runDivider (free 3)
        ce158 := s.iocs.ce158.runDivider (free 4) }
    draws := s.draws + 1 }

/-- The clock during a turn: the dividers run through every turn of the CPU, halted, waiting or not, and of the timer
(R29, R341); an event at a pin takes no time (DESIGN CHOICE, log 32). -/
def State.passTime (s : State) (m : Move) : State :=
  match m with
  | .cpu => s.runDividers
  | .timer => s.runDividers
  | _ => s

/-- One move of an agent other than the CPU; `none` for an access by a second bus master, which is refused (log 15),
and for the CPU's own move. -/
def State.hostMove (s : State) (m : Move) : Option State :=
  match m with
  | .cpu => none
  | .timer => some s.timerStep
  | .divider => some { s with divider := s.divider + 1 }
  | .nmi => some { s with ir0 := true }
  | .mi => some { s with ir2 := true }
  | .reset => some s.resetCpu
  | .bfi => some { s with bf := true, out := .bfo false :: s.out }
  | .inPins v => some { s with inPins := v }
  | .wait level => some { s with wa := level }
  | .ioc u m => some (s.iocMove u m)
  | .busMaster => none

end Sys2Proof.Machine
end

