-- ==== Sys2Proof/Machine/Platform.lean ====
section
/-! DEFINITION. The Sharp PC-1500 and PC-1500A as instances of the memory map (20_memory.md R55 to R58), with what is
fitted to them. Nothing of the CPU depends on them; State.reset does not use them. -/

namespace Sys2Proof.Machine

/-- What is fitted to a computer beside its standard parts. R57 gives the banks of the option area and how PV and PU choose
among them, but which module sits in which bank is in figures that are lost: each bank is a parameter of the map, with
nothing in it unless a value is given (DESIGN CHOICE, log 33). -/
structure Fitted where
  /-- the peripherals attached (R56) -/
  units : List IocUnit := []
  /-- the plug-in module's user memory, 0000H to 3FFFH (R55, select Y0) -/
  userModule : RegionKind := .absent
  /-- the select lines S1 to S5 at which option user RAM is fitted (R55) -/
  optionRam : List Nat := []
  /-- 8000H to 9FFFH while PV is reset (R57) -/
  lowPvReset : RegionKind := .absent
  /-- 8000H to 9FFFH while PV is set and PU reset -/
  lowPuReset : RegionKind := .absent
  /-- 8000H to 9FFFH while PV and PU are set -/
  lowPuSet : RegionKind := .absent
  /-- A000H to BFFFH while PV is set; while it is reset see `ce150RomArea` -/
  highPvSet : RegionKind := .absent
deriving DecidableEq, Repr

/-- A region of a space that holds whatever PV, PU and BF are. -/
def region (space : Space) (first last : Nat) (kind : RegionKind) : Region :=
  { space := space, base := first, size := last + 1 - first, kind := kind }

/-- A region of ME0 that holds while PV, and PU where it is named, have these values (R57). -/
def banked (pv : Bool) (pu : Option Bool) (first last : Nat) (kind : RegionKind) : Region :=
  { region .me0 first last kind with pv := some pv, pu := pu }

/-- ME0 as seen while BFO is high, that is BF = 0: the decoders are disabled (R55). -/
def me0Disabled : Region :=
  { space := .me0, base := 0, size := 65536, bf := some false, kind := .absent }

/-- The 2 KB of select line S`k`: option user RAM, if it is fitted (R55). -/
def optionRamArea (f : Fitted) (k : Nat) : Region :=
  region .me0 (0x4000 + 0x800 * k) (0x47FF + 0x800 * k) (if f.optionRam.contains k then .ram 0 else .absent)

/-- A000H to BFFFH while PV is reset (R58): the CE-150's system ROM, whose byte at A000H is C0H and whose other bytes are
those of bank 2; or FFH where the CE-150 is not connected. -/
def ce150RomArea (connected : Bool) : List Region :=
  if connected then [ banked false none 0xA000 0xA000 (.fixed 0xC0#8), banked false none 0xA001 0xBFFF (.rom 2) ]
  else [ banked false none 0xA000 0xBFFF (.fixed 0xFF#8) ]

/-- The option area 8000H to BFFFH: PV chooses one of two banks for all of it, and in the bank of PV = 1, PU chooses one of
two sub-banks for 8000H to 9FFFH (R57). -/
def optionRomArea (f : Fitted) : List Region :=
  ce150RomArea (f.units.contains .ce150) ++
    [ banked false none 0x8000 0x9FFF f.lowPvReset,
      banked true (some false) 0x8000 0x9FFF f.lowPuReset,
      banked true (some true) 0x8000 0x9FFF f.lowPuSet,
      banked true none 0xA000 0xBFFF f.highPvSet ]

/-- Where a controller answers in ME1 (R56). The CE-158's UART is not modelled: R56 gives it no address. -/
def iocRegion (u : IocUnit) : Region :=
  match u with
  | .builtIn => region .me1 0xF000 0xF00F (.ioc .builtIn)
  | .ce150 => region .me1 0xB000 0xB00F (.ioc .ce150)
  | .ce153 => region .me1 0x8000 0x800F (.ioc .ce153)
  | .ce158 => region .me1 0xD000 0xD00E (.ioc .ce158)

/-- ME1: the built-in controller, those attached, and nothing else (R56). DESIGN CHOICE (log 33): ME1 answers whatever BF
is; R55 says of ME0 that its decoders are enabled only while BFO is low, and says nothing of ME1. -/
def me1Map (attached : List IocUnit) : List Region :=
  iocRegion .builtIn :: attached.map iocRegion ++ [ region .me1 0x0000 0xFFFF .absent ]

/-- The PC-1500 (R55, R56, log 29). DESIGN CHOICE (log 33): the areas the manual marks only "Do not use." (6800H to 6FFFH)
and "INHIBITED" (7000H to 75FFH, 7C00H to 7FFFH) are absent. -/
def pc1500Map (f : Fitted) : List Region :=
  [ me0Disabled,
    region .me0 0x0000 0x3FFF f.userModule,
    region .me0 0x4000 0x47FF (.ram 0) ]
    ++ [1, 2, 3, 4].map (optionRamArea f) ++
  [ region .me0 0x6800 0x75FF .absent,
    region .me0 0x7600 0x7BFF (.ram 0),
    region .me0 0x7C00 0x7FFF .absent ]
    ++ optionRomArea f ++ [ region .me0 0xC000 0xFFFF (.rom 0) ] ++ me1Map f.units

/-- The PC-1500A: user RAM 4000H to 57FFH, option RAM at S5 too, and 7800H to 7FFFH one RAM (R55, addendum). DESIGN CHOICE
(log 33): 7000H to 75FFH, "INHIBITED", is absent. -/
def pc1500aMap (f : Fitted) : List Region :=
  [ me0Disabled,
    region .me0 0x0000 0x3FFF f.userModule,
    region .me0 0x4000 0x57FF (.ram 0) ]
    ++ [3, 4, 5].map (optionRamArea f) ++
  [ region .me0 0x7000 0x75FF .absent,
    region .me0 0x7600 0x7FFF (.ram 0) ]
    ++ optionRomArea f ++ [ region .me0 0xC000 0xFFFF (.rom 0) ] ++ me1Map f.units

end Sys2Proof.Machine
end

