-- ==== Sys2Proof/Machine/Cycle.lean ====
section
/-! DEFINITION. One CPU step (00_scope.md R8, 60_exceptions.md R313), whose move comes next, and how a word of
spec/opcode_table.json is placed where the next step fetches. -/

namespace Sys2Proof.Machine

/-- Fetch, decode and execute one instruction. An unlisted opcode stops the machine by name (30_encoding.md R70). -/
def State.runInstr (s : State) : Result :=
  let f := s.fetchInstr
  match f.1 with
  | .ok i => exec i f.2
  | .error (.illegalOpcode second op) => .fault (.illegalOpcode second op)
  | .error .truncated => .fault (.illegalOpcode false 0xFD#8)

/-- What a halted CPU does when no interrupt was taken: nothing, unless masked requests release the halt (45_cpu_control.md
R186, log 8). -/
def State.stayHalted (s : State) : State :=
  if Config.hltWakeIgnoresIE && (s.ir0 || s.ir1 || s.ir2) then { s with halted := false } else s

/-- One CPU step: with WA set the clock is stopped (20_memory.md R54); else the interrupt check; else, unless halted,
one instruction. -/
def State.cpuStep (s : State) : Result :=
  if s.wa then .next s
  else
    match s.pendingInterrupt with
    | some n => .next (s.takeInterrupt n)
    | none => if s.halted then .next s.stayHalted else s.runInstr

/-- Whose move is next, and the machine with that turn taken. The script's moves come first, in order (log 9); after it
the CPU moves until the timer's next step is due, and then the timer (00_scope.md R8): it keeps stepping, how many CPU
steps apart nothing says (92_eei_decisions.md D10, log 34). -/
def State.nextTurn (s : State) : Move × State :=
  match s.script with
  | m :: rest => (m, { s with script := rest })
  | [] =>
    match s.untilTimer with
    | n + 1 => (.cpu, { s with untilTimer := n })
    | 0 => (.timer, { s with untilTimer := Config.cpuStepsToTimer s.draws, draws := s.draws + 1 })

/-- The machine with its next turn taken, the dividers having run on through it (10_state.md R29, log 32). -/
def State.popMove (s : State) : State := s.nextTurn.2.passTime s.nextTurn.1

/-- One step of the machine: the agent whose turn it is moves. -/
def State.move (s : State) : Result :=
  match s.nextTurn.1 with
  | .cpu => s.popMove.cpuStep
  | m =>
    match s.popMove.hostMove m with
    | some t => .next t
    | none => .refused .externalBusMaster

/-- Place one byte of a program at ME0:a from outside the machine. An address where no memory answers gets a byte of RAM,
so that the fetch finds it. -/
def State.loadByte (s : State) (a : Addr) (v : Byte) : State :=
  match s.readCell .me0 a with
  | some k => { s with mem := s.mem.write k v }
  | none =>
    { s with
      board := { s.board with map := region .me0 a.toNat a.toNat (.ram 0) :: s.board.map }
      mem := s.mem.write (cellOf 0 a) v }

/-- Place bytes at successive addresses. -/
def State.loadBytes (s : State) (a : Addr) : List Byte → State
  | [] => s
  | b :: rest => State.loadBytes (s.loadByte a b) (a + 1) rest

/-- Make the next step an instruction fetch: the CPU moves, its clock runs, it is not halted, and no interrupt request is
pending (log 22). -/
def State.readyToFetch (s : State) : State :=
  { s with
    script := (match s.script with
      | [] => []
      | ms => .cpu :: ms)
    untilTimer := (match s.untilTimer with
      | 0 => 1
      | n => n)
    wa := false, halted := false, ir0 := false, ir1 := false, ir2 := false }

end Sys2Proof.Machine
end

