-- ==== Sys2Proof/Machine/Step.lean ====
section
/-! DEFINITION. The step function, and the placing of one instruction where it fetches. -/

namespace Sys2Proof.Machine

/-- One step of the machine. -/
def step (s : State) : Host.Outcome State Fault Refusal := s.move

/-- `s` with the instruction of a table word stored at P, so that the next step runs it (log 21, log 22). -/
def State.withFetchWord (s : State) (nbits w : Nat) : State :=
  s.readyToFetch.loadBytes s.p (tableBytes nbits w)

end Sys2Proof.Machine
end

