-- ==== Sys2Proof/Safety/Forms.lean ====
section
/-! DEFINITION. The forms of every instruction as its rule lists them: the bytes of the encoding, the instruction they
stand for, and the operand, register, pair or condition that the form names. The statements quantify over these tables, so
that each speaks of every form of its instruction. -/

namespace Sys2Proof.Machine

/-- One form of an instruction: its bytes in fetch order, the instruction, and what the form names. -/
structure Form (α : Type) where
  bytes : List Byte
  instr : Instr
  what : α

/-- The bytes of the form are the encoding of its instruction, whatever follows them. -/
def Form.Encodes {α : Type} (f : Form α) : Prop :=
  ∀ rest : List Byte, decode (f.bytes ++ rest) = .ok (f.instr, rest)

/-- The five flags of T (10_state.md R16). -/
inductive Flag where
  | c
  | ie
  | z
  | v
  | h
deriving DecidableEq, Repr

def State.flag (s : State) : Flag → Bool
  | .c => s.c
  | .ie => s.ie
  | .z => s.z
  | .v => s.v
  | .h => s.h

/-- The 16-bit operands of LDX and STX (42_transfer.md R134, R138): a pair, S or P. -/
inductive Wide where
  | pair (r : Pair)
  | s
  | p
deriving DecidableEq, Repr

/-- The value of a 16-bit operand. -/
def State.wide (s : State) : Wide → Addr
  | .pair r => s.pair r
  | .s => s.sp
  | .p => s.p

/-- Write a 16-bit operand. -/
def State.setWide (s : State) (w : Wide) (v : Addr) : State :=
  match w with
  | .pair r => s.setPair r v
  | .s => { s with sp := v }
  | .p => { s with p := v }

/-! ### Forms with an 8-bit operand -/

/-- The forms of ADC (R100). -/
def adcForms (a b : Byte) : List (Form Operand) :=
  [ ⟨[0x02#8], .adcXl, .reg .xl⟩,
    ⟨[0x03#8], .adcIndX, .ind .me0 .x⟩,
    ⟨[0x12#8], .adcYl, .reg .yl⟩,
    ⟨[0x13#8], .adcIndY, .ind .me0 .y⟩,
    ⟨[0x22#8], .adcUl, .reg .ul⟩,
    ⟨[0x23#8], .adcIndU, .ind .me0 .u⟩,
    ⟨[0x82#8], .adcXh, .reg .xh⟩,
    ⟨[0x92#8], .adcYh, .reg .yh⟩,
    ⟨[0xA2#8], .adcUh, .reg .uh⟩,
    ⟨[0xA3#8, a, b], .adcAbs a b, .abs .me0 a b⟩,
    ⟨[0xFD#8, 0x03#8], .adcInd1X, .ind .me1 .x⟩,
    ⟨[0xFD#8, 0x13#8], .adcInd1Y, .ind .me1 .y⟩,
    ⟨[0xFD#8, 0x23#8], .adcInd1U, .ind .me1 .u⟩,
    ⟨[0xFD#8, 0xA3#8, a, b], .adcAbs1 a b, .abs .me1 a b⟩ ]

/-- The forms of DCA (R102). -/
def dcaForms : List (Form Operand) :=
  [ ⟨[0x8C#8], .dcaIndX, .ind .me0 .x⟩,
    ⟨[0x9C#8], .dcaIndY, .ind .me0 .y⟩,
    ⟨[0xAC#8], .dcaIndU, .ind .me0 .u⟩,
    ⟨[0xFD#8, 0x8C#8], .dcaInd1X, .ind .me1 .x⟩,
    ⟨[0xFD#8, 0x9C#8], .dcaInd1Y, .ind .me1 .y⟩,
    ⟨[0xFD#8, 0xAC#8], .dcaInd1U, .ind .me1 .u⟩ ]

/-- The forms of SBC (R104). -/
def sbcForms (a b : Byte) : List (Form Operand) :=
  [ ⟨[0x00#8], .sbcXl, .reg .xl⟩,
    ⟨[0x01#8], .sbcIndX, .ind .me0 .x⟩,
    ⟨[0x10#8], .sbcYl, .reg .yl⟩,
    ⟨[0x11#8], .sbcIndY, .ind .me0 .y⟩,
    ⟨[0x20#8], .sbcUl, .reg .ul⟩,
    ⟨[0x21#8], .sbcIndU, .ind .me0 .u⟩,
    ⟨[0x80#8], .sbcXh, .reg .xh⟩,
    ⟨[0x90#8], .sbcYh, .reg .yh⟩,
    ⟨[0xA0#8], .sbcUh, .reg .uh⟩,
    ⟨[0xA1#8, a, b], .sbcAbs a b, .abs .me0 a b⟩,
    ⟨[0xFD#8, 0x01#8], .sbcInd1X, .ind .me1 .x⟩,
    ⟨[0xFD#8, 0x11#8], .sbcInd1Y, .ind .me1 .y⟩,
    ⟨[0xFD#8, 0x21#8], .sbcInd1U, .ind .me1 .u⟩,
    ⟨[0xFD#8, 0xA1#8, a, b], .sbcAbs1 a b, .abs .me1 a b⟩ ]

/-- The forms of DCS (R106). -/
def dcsForms : List (Form Operand) :=
  [ ⟨[0x0C#8], .dcsIndX, .ind .me0 .x⟩,
    ⟨[0x1C#8], .dcsIndY, .ind .me0 .y⟩,
    ⟨[0x2C#8], .dcsIndU, .ind .me0 .u⟩,
    ⟨[0xFD#8, 0x0C#8], .dcsInd1X, .ind .me1 .x⟩,
    ⟨[0xFD#8, 0x1C#8], .dcsInd1Y, .ind .me1 .y⟩,
    ⟨[0xFD#8, 0x2C#8], .dcsInd1U, .ind .me1 .u⟩ ]

/-- The forms of AND (R107). -/
def andForms (a b : Byte) : List (Form Operand) :=
  [ ⟨[0x09#8], .andIndX, .ind .me0 .x⟩,
    ⟨[0x19#8], .andIndY, .ind .me0 .y⟩,
    ⟨[0x29#8], .andIndU, .ind .me0 .u⟩,
    ⟨[0xA9#8, a, b], .andAbs a b, .abs .me0 a b⟩,
    ⟨[0xFD#8, 0x09#8], .andInd1X, .ind .me1 .x⟩,
    ⟨[0xFD#8, 0x19#8], .andInd1Y, .ind .me1 .y⟩,
    ⟨[0xFD#8, 0x29#8], .andInd1U, .ind .me1 .u⟩,
    ⟨[0xFD#8, 0xA9#8, a, b], .andAbs1 a b, .abs .me1 a b⟩ ]

/-- The forms of ORA (R109). -/
def oraForms (a b : Byte) : List (Form Operand) :=
  [ ⟨[0x0B#8], .oraIndX, .ind .me0 .x⟩,
    ⟨[0x1B#8], .oraIndY, .ind .me0 .y⟩,
    ⟨[0x2B#8], .oraIndU, .ind .me0 .u⟩,
    ⟨[0xAB#8, a, b], .oraAbs a b, .abs .me0 a b⟩,
    ⟨[0xFD#8, 0x0B#8], .oraInd1X, .ind .me1 .x⟩,
    ⟨[0xFD#8, 0x1B#8], .oraInd1Y, .ind .me1 .y⟩,
    ⟨[0xFD#8, 0x2B#8], .oraInd1U, .ind .me1 .u⟩,
    ⟨[0xFD#8, 0xAB#8, a, b], .oraAbs1 a b, .abs .me1 a b⟩ ]

/-- The forms of EOR (R111). -/
def eorForms (a b : Byte) : List (Form Operand) :=
  [ ⟨[0x0D#8], .eorIndX, .ind .me0 .x⟩,
    ⟨[0x1D#8], .eorIndY, .ind .me0 .y⟩,
    ⟨[0x2D#8], .eorIndU, .ind .me0 .u⟩,
    ⟨[0xAD#8, a, b], .eorAbs a b, .abs .me0 a b⟩,
    ⟨[0xFD#8, 0x0D#8], .eorInd1X, .ind .me1 .x⟩,
    ⟨[0xFD#8, 0x1D#8], .eorInd1Y, .ind .me1 .y⟩,
    ⟨[0xFD#8, 0x2D#8], .eorInd1U, .ind .me1 .u⟩,
    ⟨[0xFD#8, 0xAD#8, a, b], .eorAbs1 a b, .abs .me1 a b⟩ ]

/-- The forms of CPA (R120). -/
def cpaForms (a b : Byte) : List (Form Operand) :=
  [ ⟨[0x06#8], .cpaXl, .reg .xl⟩,
    ⟨[0x07#8], .cpaIndX, .ind .me0 .x⟩,
    ⟨[0x16#8], .cpaYl, .reg .yl⟩,
    ⟨[0x17#8], .cpaIndY, .ind .me0 .y⟩,
    ⟨[0x26#8], .cpaUl, .reg .ul⟩,
    ⟨[0x27#8], .cpaIndU, .ind .me0 .u⟩,
    ⟨[0x86#8], .cpaXh, .reg .xh⟩,
    ⟨[0x96#8], .cpaYh, .reg .yh⟩,
    ⟨[0xA6#8], .cpaUh, .reg .uh⟩,
    ⟨[0xA7#8, a, b], .cpaAbs a b, .abs .me0 a b⟩,
    ⟨[0xFD#8, 0x07#8], .cpaInd1X, .ind .me1 .x⟩,
    ⟨[0xFD#8, 0x17#8], .cpaInd1Y, .ind .me1 .y⟩,
    ⟨[0xFD#8, 0x27#8], .cpaInd1U, .ind .me1 .u⟩,
    ⟨[0xFD#8, 0xA7#8, a, b], .cpaAbs1 a b, .abs .me1 a b⟩ ]

/-- The forms of BIT (R122). -/
def bitForms (a b : Byte) : List (Form Operand) :=
  [ ⟨[0x0F#8], .bitIndX, .ind .me0 .x⟩,
    ⟨[0x1F#8], .bitIndY, .ind .me0 .y⟩,
    ⟨[0x2F#8], .bitIndU, .ind .me0 .u⟩,
    ⟨[0xAF#8, a, b], .bitAbs a b, .abs .me0 a b⟩,
    ⟨[0xFD#8, 0x0F#8], .bitInd1X, .ind .me1 .x⟩,
    ⟨[0xFD#8, 0x1F#8], .bitInd1Y, .ind .me1 .y⟩,
    ⟨[0xFD#8, 0x2F#8], .bitInd1U, .ind .me1 .u⟩,
    ⟨[0xFD#8, 0xAF#8, a, b], .bitAbs1 a b, .abs .me1 a b⟩ ]

/-- The forms of LDA (R130). -/
def ldaForms (a b : Byte) : List (Form Operand) :=
  [ ⟨[0x04#8], .ldaXl, .reg .xl⟩,
    ⟨[0x05#8], .ldaIndX, .ind .me0 .x⟩,
    ⟨[0x14#8], .ldaYl, .reg .yl⟩,
    ⟨[0x15#8], .ldaIndY, .ind .me0 .y⟩,
    ⟨[0x24#8], .ldaUl, .reg .ul⟩,
    ⟨[0x25#8], .ldaIndU, .ind .me0 .u⟩,
    ⟨[0x84#8], .ldaXh, .reg .xh⟩,
    ⟨[0x94#8], .ldaYh, .reg .yh⟩,
    ⟨[0xA4#8], .ldaUh, .reg .uh⟩,
    ⟨[0xA5#8, a, b], .ldaAbs a b, .abs .me0 a b⟩,
    ⟨[0xFD#8, 0x05#8], .ldaInd1X, .ind .me1 .x⟩,
    ⟨[0xFD#8, 0x15#8], .ldaInd1Y, .ind .me1 .y⟩,
    ⟨[0xFD#8, 0x25#8], .ldaInd1U, .ind .me1 .u⟩,
    ⟨[0xFD#8, 0xA5#8, a, b], .ldaAbs1 a b, .abs .me1 a b⟩ ]

/-- The forms of STA (R135). -/
def staForms (a b : Byte) : List (Form Operand) :=
  [ ⟨[0x08#8], .staXh, .reg .xh⟩,
    ⟨[0x0A#8], .staXl, .reg .xl⟩,
    ⟨[0x0E#8], .staIndX, .ind .me0 .x⟩,
    ⟨[0x18#8], .staYh, .reg .yh⟩,
    ⟨[0x1A#8], .staYl, .reg .yl⟩,
    ⟨[0x1E#8], .staIndY, .ind .me0 .y⟩,
    ⟨[0x28#8], .staUh, .reg .uh⟩,
    ⟨[0x2A#8], .staUl, .reg .ul⟩,
    ⟨[0x2E#8], .staIndU, .ind .me0 .u⟩,
    ⟨[0xAE#8, a, b], .staAbs a b, .abs .me0 a b⟩,
    ⟨[0xFD#8, 0x0E#8], .staInd1X, .ind .me1 .x⟩,
    ⟨[0xFD#8, 0x1E#8], .staInd1Y, .ind .me1 .y⟩,
    ⟨[0xFD#8, 0x2E#8], .staInd1U, .ind .me1 .u⟩,
    ⟨[0xFD#8, 0xAE#8, a, b], .staAbs1 a b, .abs .me1 a b⟩ ]

/-- The forms of ANI (R108). -/
def aniForms (a b i : Byte) : List (Form Operand) :=
  [ ⟨[0x49#8, i], .aniIndX i, .ind .me0 .x⟩,
    ⟨[0x59#8, i], .aniIndY i, .ind .me0 .y⟩,
    ⟨[0x69#8, i], .aniIndU i, .ind .me0 .u⟩,
    ⟨[0xB9#8, i], .aniA i, .reg .a⟩,
    ⟨[0xE9#8, a, b, i], .aniAbs a b i, .abs .me0 a b⟩,
    ⟨[0xFD#8, 0x49#8, i], .aniInd1X i, .ind .me1 .x⟩,
    ⟨[0xFD#8, 0x59#8, i], .aniInd1Y i, .ind .me1 .y⟩,
    ⟨[0xFD#8, 0x69#8, i], .aniInd1U i, .ind .me1 .u⟩,
    ⟨[0xFD#8, 0xE9#8, a, b, i], .aniAbs1 a b i, .abs .me1 a b⟩ ]

/-- The forms of ORI (R110). -/
def oriForms (a b i : Byte) : List (Form Operand) :=
  [ ⟨[0x4B#8, i], .oriIndX i, .ind .me0 .x⟩,
    ⟨[0x5B#8, i], .oriIndY i, .ind .me0 .y⟩,
    ⟨[0x6B#8, i], .oriIndU i, .ind .me0 .u⟩,
    ⟨[0xBB#8, i], .oriA i, .reg .a⟩,
    ⟨[0xEB#8, a, b, i], .oriAbs a b i, .abs .me0 a b⟩,
    ⟨[0xFD#8, 0x4B#8, i], .oriInd1X i, .ind .me1 .x⟩,
    ⟨[0xFD#8, 0x5B#8, i], .oriInd1Y i, .ind .me1 .y⟩,
    ⟨[0xFD#8, 0x6B#8, i], .oriInd1U i, .ind .me1 .u⟩,
    ⟨[0xFD#8, 0xEB#8, a, b, i], .oriAbs1 a b i, .abs .me1 a b⟩ ]

/-- The forms of BII (R123). -/
def biiForms (a b i : Byte) : List (Form Operand) :=
  [ ⟨[0x4D#8, i], .biiIndX i, .ind .me0 .x⟩,
    ⟨[0x5D#8, i], .biiIndY i, .ind .me0 .y⟩,
    ⟨[0x6D#8, i], .biiIndU i, .ind .me0 .u⟩,
    ⟨[0xBF#8, i], .biiA i, .reg .a⟩,
    ⟨[0xED#8, a, b, i], .biiAbs a b i, .abs .me0 a b⟩,
    ⟨[0xFD#8, 0x4D#8, i], .biiInd1X i, .ind .me1 .x⟩,
    ⟨[0xFD#8, 0x5D#8, i], .biiInd1Y i, .ind .me1 .y⟩,
    ⟨[0xFD#8, 0x6D#8, i], .biiInd1U i, .ind .me1 .u⟩,
    ⟨[0xFD#8, 0xED#8, a, b, i], .biiAbs1 a b i, .abs .me1 a b⟩ ]

/-- The memory forms of ADI (R101). -/
def adiForms (a b i : Byte) : List (Form Operand) :=
  [ ⟨[0x4F#8, i], .adiIndX i, .ind .me0 .x⟩,
    ⟨[0x5F#8, i], .adiIndY i, .ind .me0 .y⟩,
    ⟨[0x6F#8, i], .adiIndU i, .ind .me0 .u⟩,
    ⟨[0xEF#8, a, b, i], .adiAbs a b i, .abs .me0 a b⟩,
    ⟨[0xFD#8, 0x4F#8, i], .adiInd1X i, .ind .me1 .x⟩,
    ⟨[0xFD#8, 0x5F#8, i], .adiInd1Y i, .ind .me1 .y⟩,
    ⟨[0xFD#8, 0x6F#8, i], .adiInd1U i, .ind .me1 .u⟩,
    ⟨[0xFD#8, 0xEF#8, a, b, i], .adiAbs1 a b i, .abs .me1 a b⟩ ]

/-! ### Forms with an 8-bit register -/

/-- INC of an 8-bit register (R113). -/
def incForms : List (Form Reg8) :=
  [ ⟨[0x40#8], .incXl, .xl⟩,
    ⟨[0x50#8], .incYl, .yl⟩,
    ⟨[0x60#8], .incUl, .ul⟩,
    ⟨[0xDD#8], .incA, .a⟩,
    ⟨[0xFD#8, 0x40#8], .incXh, .xh⟩,
    ⟨[0xFD#8, 0x50#8], .incYh, .yh⟩,
    ⟨[0xFD#8, 0x60#8], .incUh, .uh⟩ ]

/-- DEC of an 8-bit register (R114). -/
def decForms : List (Form Reg8) :=
  [ ⟨[0x42#8], .decXl, .xl⟩,
    ⟨[0x52#8], .decYl, .yl⟩,
    ⟨[0x62#8], .decUl, .ul⟩,
    ⟨[0xDF#8], .decA, .a⟩,
    ⟨[0xFD#8, 0x42#8], .decXh, .xh⟩,
    ⟨[0xFD#8, 0x52#8], .decYh, .yh⟩,
    ⟨[0xFD#8, 0x62#8], .decUh, .uh⟩ ]

/-- The forms of CPI (R121). -/
def cpiForms (i : Byte) : List (Form Reg8) :=
  [ ⟨[0x4C#8, i], .cpiXh i, .xh⟩,
    ⟨[0x4E#8, i], .cpiXl i, .xl⟩,
    ⟨[0x5C#8, i], .cpiYh i, .yh⟩,
    ⟨[0x5E#8, i], .cpiYl i, .yl⟩,
    ⟨[0x6C#8, i], .cpiUh i, .uh⟩,
    ⟨[0x6E#8, i], .cpiUl i, .ul⟩,
    ⟨[0xB7#8, i], .cpiA i, .a⟩ ]

/-- LDI of RL and RH (R133). -/
def ldiForms (i : Byte) : List (Form Reg8) :=
  [ ⟨[0x48#8, i], .ldiXh i, .xh⟩,
    ⟨[0x4A#8, i], .ldiXl i, .xl⟩,
    ⟨[0x58#8, i], .ldiYh i, .yh⟩,
    ⟨[0x5A#8, i], .ldiYl i, .yl⟩,
    ⟨[0x68#8, i], .ldiUh i, .uh⟩,
    ⟨[0x6A#8, i], .ldiUl i, .ul⟩ ]

/-! ### Forms with a register pair -/

/-- INC of a pair (R113). -/
def incPairForms : List (Form Pair) :=
  [ ⟨[0x44#8], .incX, .x⟩,
    ⟨[0x54#8], .incY, .y⟩,
    ⟨[0x64#8], .incU, .u⟩ ]

/-- DEC of a pair (R114). -/
def decPairForms : List (Form Pair) :=
  [ ⟨[0x46#8], .decX, .x⟩,
    ⟨[0x56#8], .decY, .y⟩,
    ⟨[0x66#8], .decU, .u⟩ ]

/-- The forms of ADR (R103). -/
def adrForms : List (Form Pair) :=
  [ ⟨[0xFD#8, 0xCA#8], .adrX, .x⟩,
    ⟨[0xFD#8, 0xDA#8], .adrY, .y⟩,
    ⟨[0xFD#8, 0xEA#8], .adrU, .u⟩ ]

/-- The forms of LDE (R131). -/
def ldeForms : List (Form Pair) :=
  [ ⟨[0x47#8], .ldeX, .x⟩,
    ⟨[0x57#8], .ldeY, .y⟩,
    ⟨[0x67#8], .ldeU, .u⟩ ]

/-- The forms of LIN (R132). -/
def linForms : List (Form Pair) :=
  [ ⟨[0x45#8], .linX, .x⟩,
    ⟨[0x55#8], .linY, .y⟩,
    ⟨[0x65#8], .linU, .u⟩ ]

/-- The forms of SDE (R136). -/
def sdeForms : List (Form Pair) :=
  [ ⟨[0x43#8], .sdeX, .x⟩,
    ⟨[0x53#8], .sdeY, .y⟩,
    ⟨[0x63#8], .sdeU, .u⟩ ]

/-- The forms of SIN (R137). -/
def sinForms : List (Form Pair) :=
  [ ⟨[0x41#8], .sinX, .x⟩,
    ⟨[0x51#8], .sinY, .y⟩,
    ⟨[0x61#8], .sinU, .u⟩ ]

/-- PSH of a pair (R139). -/
def pshForms : List (Form Pair) :=
  [ ⟨[0xFD#8, 0x88#8], .pshX, .x⟩,
    ⟨[0xFD#8, 0x98#8], .pshY, .y⟩,
    ⟨[0xFD#8, 0xA8#8], .pshU, .u⟩ ]

/-- POP of a pair (R140). -/
def popForms : List (Form Pair) :=
  [ ⟨[0xFD#8, 0x0A#8], .popX, .x⟩,
    ⟨[0xFD#8, 0x1A#8], .popY, .y⟩,
    ⟨[0xFD#8, 0x2A#8], .popU, .u⟩ ]

/-- The forms of LDX (R134). -/
def ldxForms : List (Form Wide) :=
  [ ⟨[0xFD#8, 0x08#8], .ldxX, .pair .x⟩,
    ⟨[0xFD#8, 0x18#8], .ldxY, .pair .y⟩,
    ⟨[0xFD#8, 0x28#8], .ldxU, .pair .u⟩,
    ⟨[0xFD#8, 0x48#8], .ldxS, .s⟩,
    ⟨[0xFD#8, 0x58#8], .ldxP, .p⟩ ]

/-- The forms of STX (R138). -/
def stxForms : List (Form Wide) :=
  [ ⟨[0xFD#8, 0x4A#8], .stxX, .pair .x⟩,
    ⟨[0xFD#8, 0x4E#8], .stxS, .s⟩,
    ⟨[0xFD#8, 0x5A#8], .stxY, .pair .y⟩,
    ⟨[0xFD#8, 0x5E#8], .stxP, .p⟩,
    ⟨[0xFD#8, 0x6A#8], .stxU, .pair .u⟩ ]

/-! ### Digit rotates, branches and vector calls -/

/-- The forms of DRL, with the space of the byte at X (R164). -/
def drlForms : List (Form Space) :=
  [ ⟨[0xD7#8], .drlIndX, .me0⟩,
    ⟨[0xFD#8, 0xD7#8], .drlInd1X, .me1⟩ ]

/-- The forms of DRR, with the space of the byte at X (R165). -/
def drrForms : List (Form Space) :=
  [ ⟨[0xD3#8], .drrIndX, .me0⟩,
    ⟨[0xFD#8, 0xD3#8], .drrInd1X, .me1⟩ ]

/-- The forms of BCH, and whether the distance is subtracted (R201). -/
def bchForms (i : Byte) : List (Form Bool) :=
  [ ⟨[0x8E#8, i], .bchFwd i, false⟩,
    ⟨[0x9E#8, i], .bchBack i, true⟩ ]

/-- The conditional branches (R202 to R209): the flag tested, the value it is taken at, and whether the distance is
subtracted. -/
def branchForms (i : Byte) : List (Form (Flag × Bool × Bool)) :=
  [ ⟨[0x83#8, i], .bcsFwd i, (.c, true, false)⟩,
    ⟨[0x93#8, i], .bcsBack i, (.c, true, true)⟩,
    ⟨[0x81#8, i], .bcrFwd i, (.c, false, false)⟩,
    ⟨[0x91#8, i], .bcrBack i, (.c, false, true)⟩,
    ⟨[0x87#8, i], .bhsFwd i, (.h, true, false)⟩,
    ⟨[0x97#8, i], .bhsBack i, (.h, true, true)⟩,
    ⟨[0x85#8, i], .bhrFwd i, (.h, false, false)⟩,
    ⟨[0x95#8, i], .bhrBack i, (.h, false, true)⟩,
    ⟨[0x8B#8, i], .bzsFwd i, (.z, true, false)⟩,
    ⟨[0x9B#8, i], .bzsBack i, (.z, true, true)⟩,
    ⟨[0x89#8, i], .bzrFwd i, (.z, false, false)⟩,
    ⟨[0x99#8, i], .bzrBack i, (.z, false, true)⟩,
    ⟨[0x8F#8, i], .bvsFwd i, (.v, true, false)⟩,
    ⟨[0x9F#8, i], .bvsBack i, (.v, true, true)⟩,
    ⟨[0x8D#8, i], .bvrFwd i, (.v, false, false)⟩,
    ⟨[0x9D#8, i], .bvrBack i, (.v, false, true)⟩ ]

/-- The 28 forms of VEJ, with the offset of the vector (R221, 30_encoding.md R76). -/
def vejForms : List (Form Byte) :=
  [ ⟨[0xC0#8], .vejC0, 0xC0#8⟩,
    ⟨[0xC2#8], .vejC2, 0xC2#8⟩,
    ⟨[0xC4#8], .vejC4, 0xC4#8⟩,
    ⟨[0xC6#8], .vejC6, 0xC6#8⟩,
    ⟨[0xC8#8], .vejC8, 0xC8#8⟩,
    ⟨[0xCA#8], .vejCA, 0xCA#8⟩,
    ⟨[0xCC#8], .vejCC, 0xCC#8⟩,
    ⟨[0xCE#8], .vejCE, 0xCE#8⟩,
    ⟨[0xD0#8], .vejD0, 0xD0#8⟩,
    ⟨[0xD2#8], .vejD2, 0xD2#8⟩,
    ⟨[0xD4#8], .vejD4, 0xD4#8⟩,
    ⟨[0xD6#8], .vejD6, 0xD6#8⟩,
    ⟨[0xD8#8], .vejD8, 0xD8#8⟩,
    ⟨[0xDA#8], .vejDA, 0xDA#8⟩,
    ⟨[0xDC#8], .vejDC, 0xDC#8⟩,
    ⟨[0xDE#8], .vejDE, 0xDE#8⟩,
    ⟨[0xE0#8], .vejE0, 0xE0#8⟩,
    ⟨[0xE2#8], .vejE2, 0xE2#8⟩,
    ⟨[0xE4#8], .vejE4, 0xE4#8⟩,
    ⟨[0xE6#8], .vejE6, 0xE6#8⟩,
    ⟨[0xE8#8], .vejE8, 0xE8#8⟩,
    ⟨[0xEA#8], .vejEA, 0xEA#8⟩,
    ⟨[0xEC#8], .vejEC, 0xEC#8⟩,
    ⟨[0xEE#8], .vejEE, 0xEE#8⟩,
    ⟨[0xF0#8], .vejF0, 0xF0#8⟩,
    ⟨[0xF2#8], .vejF2, 0xF2#8⟩,
    ⟨[0xF4#8], .vejF4, 0xF4#8⟩,
    ⟨[0xF6#8], .vejF6, 0xF6#8⟩ ]

/-- The conditional vector calls (R223 to R229): the flag tested, and the value at which the call is made. -/
def vectorIfForms (i : Byte) : List (Form (Flag × Bool)) :=
  [ ⟨[0xC3#8, i], .vcs i, (.c, true)⟩,
    ⟨[0xC1#8, i], .vcr i, (.c, false)⟩,
    ⟨[0xC7#8, i], .vhs i, (.h, true)⟩,
    ⟨[0xC5#8, i], .vhr i, (.h, false)⟩,
    ⟨[0xCB#8, i], .vzs i, (.z, true)⟩,
    ⟨[0xC9#8, i], .vzr i, (.z, false)⟩,
    ⟨[0xCF#8, i], .vvs i, (.v, true)⟩ ]

end Sys2Proof.Machine
end

