-- ==== Sys2Proof/Safety.lean ====
section
/-! DEFINITION. The terms the statements use: the invariant, what the adder means in integers, decimal digits, whose turn
it is, where instruction bytes stand, and what each instruction may change. -/

namespace Sys2Proof.Machine

/-! ### The invariant -/

/-- The invariant of the model: memory keeps its canonical form. -/
def State.Inv (s : State) : Prop := s.mem.wf = true

/-! ### What the adder means (10_state.md R17 to R21), in integers -/

/-- `a + b + cin` with the flags as R17 to R20 describe them: the carry out of bit 7, the carry out of bit 3, signed
overflow, and the zero test of the 8-bit sum. -/
def addMeaning (a b : Byte) (cin : Bool) : AddResult :=
  let n := a.toNat + b.toNat + cin.toNat
  let signed := a.toInt + b.toInt + cin.toNat
  { sum := BitVec.ofNat 8 n
    c := decide (256 ≤ n)
    h := decide (16 ≤ a.toNat % 16 + b.toNat % 16 + cin.toNat)
    v := decide (signed < -128 ∨ 127 < signed)
    z := decide (n % 256 = 0) }

/-- `a - b - (1 - cin)` with the flags as R17 to R20 describe them: C is "no borrow", H is "no half borrow", V is signed
overflow of the difference. -/
def subMeaning (a b : Byte) (cin : Bool) : AddResult :=
  let borrow : Int := (!cin).toNat
  let d : Int := a.toNat - b.toNat - borrow
  let digits : Int := (a.toNat % 16 : Nat) - (b.toNat % 16 : Nat) - borrow
  let signed := a.toInt - b.toInt - borrow
  { sum := BitVec.ofInt 8 d
    c := decide (0 ≤ d)
    h := decide (0 ≤ digits)
    v := decide (signed < -128 ∨ 127 < signed)
    z := decide (d % 256 = 0) }

/-- `s` with the four result flags of an addition or subtraction. -/
def State.withFlags (s : State) (r : AddResult) : State := { s with c := r.c, h := r.h, v := r.v, z := r.z }

/-- A byte of two decimal digits (40_arith_logic.md R102). -/
def validBcd (b : Byte) : Prop := b.toNat / 16 ≤ 9 ∧ b.toNat % 16 ≤ 9

/-- The number a byte of two decimal digits stands for. -/
def bcdValue (b : Byte) : Nat := 10 * (b.toNat / 16) + b.toNat % 16

/-! ### Turns and instruction bytes -/

/-- The CPU makes the next move (00_scope.md R8). -/
def State.cpuTurn (s : State) : Prop := s.nextTurn.1 = .cpu

/-- Instruction bytes stand in RAM or ROM of ME0 from address `a` on (20_memory.md R42; addresses wrap). -/
def State.bytesAt (s : State) (a : Addr) : List Byte → Prop
  | [] => True
  | b :: rest => (∃ k, s.readCell .me0 a = some k ∧ s.mem.read k = b) ∧ State.bytesAt s (a + 1) rest

/-- `n` timer steps (60_exceptions.md R320). -/
def timerAfter : Nat → TimerWord → TimerWord
  | 0, tm => tm
  | n + 1, tm => timerAfter n (nextTimer tm)

/-! ### Calls and interrupt entry, as their rules list them -/

/-- `PL -> (S), PH -> (S-1), S-2 -> S` (20_memory.md R43). -/
def returnPushed (s : State) : State :=
  { (s.busWrite .me0 s.sp (loByte s.p)).busWrite .me0 (s.sp - 1) (hiByte s.p) with sp := s.sp - 2 }

/-- `VectorCall(i)` of 47_subroutine.md: the return address pushed, P read from FF00H + i and the byte after it, the high
byte first, Z reset. -/
def vectorCalled (i : Byte) (s : State) : State :=
  let hi := (returnPushed s).busRead .me0 (0xFF00#16 + i.setWidth 16)
  let lo := hi.2.busRead .me0 (0xFF00#16 + i.setWidth 16 + 1)
  { lo.2 with p := ofBytes hi.1 lo.1, z := false }

/-- The entry sequence of 60_exceptions.md R310 to R312, by which interrupt it is: T stored at S, IE and the request of this
interrupt cleared, PL stored at S - 1 and PH at S - 2, P read from the vector, S down by three, the halt left. -/
def interruptEntered (n : Interrupt) (s : State) : State :=
  let s1 := s.busWrite .me0 s.sp s.t
  let s2 := { s1 with
    ie := false
    ir0 := if n = Interrupt.nmi then false else s1.ir0
    ir1 := if n = Interrupt.timer then false else s1.ir1
    ir2 := if n = Interrupt.maskable then false else s1.ir2 }
  let s3 := (s2.busWrite .me0 (s.sp - 1) (loByte s.p)).busWrite .me0 (s.sp - 2) (hiByte s.p)
  let vector : Addr := match n with
    | .nmi => 0xFFFC#16
    | .timer => 0xFFFA#16
    | .maskable => 0xFFF8#16
  let hi := s3.busRead .me0 vector
  let lo := hi.2.busRead .me0 (vector + 1)
  { lo.2 with p := ofBytes hi.1 lo.1, sp := s.sp - 3, halted := false }

/-- The next move is this one. -/
def State.nextMove (s : State) (m : Move) : Prop := s.nextTurn.1 = m

/-- `n` steps, none of which stops, take `s` to `t`. -/
def stepsTo : Nat → State → State → Prop
  | 0, s, t => s = t
  | n + 1, s, t => ∃ u, step s = .next u ∧ stepsTo n u t

/-! ### What an instruction may change -/

/-- The operand in memory an instruction stores to, if it has one: ADI, ANI, ORI and STA with a memory operand, SDE,
SIN, TIN, DRL and DRR. -/
def storedOperand (i : Instr) : Option Operand :=
  match i with
  | .adiIndX _ | .aniIndX _ | .oriIndX _ | .staIndX | .sdeX | .sinX | .drlIndX | .drrIndX => some (.ind .me0 .x)
  | .adiIndY _ | .aniIndY _ | .oriIndY _ | .staIndY | .sdeY | .sinY | .tin => some (.ind .me0 .y)
  | .adiIndU _ | .aniIndU _ | .oriIndU _ | .staIndU | .sdeU | .sinU => some (.ind .me0 .u)
  | .adiAbs a b _ => some (.abs .me0 a b)
  | .aniAbs a b _ => some (.abs .me0 a b)
  | .oriAbs a b _ => some (.abs .me0 a b)
  | .staAbs a b => some (.abs .me0 a b)
  | .adiInd1X _ | .aniInd1X _ | .oriInd1X _ | .staInd1X | .drlInd1X | .drrInd1X => some (.ind .me1 .x)
  | .adiInd1Y _ | .aniInd1Y _ | .oriInd1Y _ | .staInd1Y => some (.ind .me1 .y)
  | .adiInd1U _ | .aniInd1U _ | .oriInd1U _ | .staInd1U => some (.ind .me1 .u)
  | .adiAbs1 a b _ => some (.abs .me1 a b)
  | .aniAbs1 a b _ => some (.abs .me1 a b)
  | .oriAbs1 a b _ => some (.abs .me1 a b)
  | .staAbs1 a b => some (.abs .me1 a b)
  | _ => none

/-- How many bytes an instruction pushes in a state: a conditional vector call pushes only when it is made. -/
def pushes (i : Instr) (s : State) : Nat :=
  match i with
  | .pshA => 1
  | .pshX | .pshY | .pshU | .sjp _ _ | .vejC0 | .vejC2 | .vejC4 | .vejC6 | .vejC8 | .vejCA | .vejCC | .vejCE
    | .vejD0 | .vejD2 | .vejD4 | .vejD6 | .vejD8 | .vejDA | .vejDC | .vejDE | .vejE0 | .vejE2 | .vejE4 | .vejE6
    | .vejE8 | .vejEA | .vejEC | .vejEE | .vejF0 | .vejF2 | .vejF4 | .vejF6 | .vmj _ => 2
  | .vcs _ => if s.c then 2 else 0
  | .vcr _ => if !s.c then 2 else 0
  | .vhs _ => if s.h then 2 else 0
  | .vhr _ => if !s.h then 2 else 0
  | .vzs _ => if s.z then 2 else 0
  | .vzr _ => if !s.z then 2 else 0
  | .vvs _ => if s.v then 2 else 0
  | _ => 0

/-- The bus addresses of the bytes an instruction stores, computed from the state it starts in: the operand's address,
and the stack bytes at S and S - 1. -/
def storedAddresses (i : Instr) (s : State) : List (Space × Addr) :=
  ((storedOperand i).bind (fun o => o.address s)).toList ++
    (List.range (pushes i s)).map (fun n => (Space.me0, s.sp - BitVec.ofNat 16 n))

/-- The general registers an instruction writes, its pointer updates among them (10_state.md R12). -/
def regsWritten (i : Instr) : List Reg8 :=
  match i with
  | .adcXl | .adcIndX | .adcYl | .adcIndY | .adcUl | .adcIndU | .adcXh | .adcYh | .adcUh | .adcAbs _ _
    | .adcInd1X | .adcInd1Y | .adcInd1U | .adcAbs1 _ _ | .adiA _ | .dcaIndX | .dcaIndY | .dcaIndU | .dcaInd1X
    | .dcaInd1Y | .dcaInd1U | .sbcXl | .sbcIndX | .sbcYl | .sbcIndY | .sbcUl | .sbcIndU | .sbcXh | .sbcYh
    | .sbcUh | .sbcAbs _ _ | .sbcInd1X | .sbcInd1Y | .sbcInd1U | .sbcAbs1 _ _ | .sbiA _ | .dcsIndX | .dcsIndY
    | .dcsIndU | .dcsInd1X | .dcsInd1Y | .dcsInd1U | .andIndX | .andIndY | .andIndU | .andAbs _ _ | .andInd1X
    | .andInd1Y | .andInd1U | .andAbs1 _ _ | .aniA _ | .oraIndX | .oraIndY | .oraIndU | .oraAbs _ _ | .oraInd1X
    | .oraInd1Y | .oraInd1U | .oraAbs1 _ _ | .oriA _ | .eorIndX | .eorIndY | .eorIndU | .eorAbs _ _ | .eorInd1X
    | .eorInd1Y | .eorInd1U | .eorAbs1 _ _ | .eai _ | .incA | .decA | .ldaXl | .ldaIndX | .ldaYl | .ldaIndY
    | .ldaUl | .ldaIndU | .ldaXh | .ldaYh | .ldaUh | .ldaAbs _ _ | .ldaInd1X | .ldaInd1Y | .ldaInd1U
    | .ldaAbs1 _ _ | .ldiA _ | .popA | .tta | .rol | .ror | .shl | .shr | .drlIndX | .drlInd1X | .drrIndX
    | .drrInd1X | .aex | .ita => [.a]
  | .adrX | .incX | .decX | .ldxX | .ldxY | .ldxU | .ldxS | .ldxP | .sdeX | .sinX | .stxX | .popX | .cin => [.xl, .xh]
  | .adrY | .incY | .decY | .sdeY | .sinY | .stxY | .popY => [.yl, .yh]
  | .adrU | .incU | .decU | .sdeU | .sinU | .stxU | .popU => [.ul, .uh]
  | .incXl | .decXl | .ldiXl _ | .staXl => [.xl]
  | .incYl | .decYl | .ldiYl _ | .staYl => [.yl]
  | .incUl | .decUl | .ldiUl _ | .staUl | .lop _ => [.ul]
  | .incXh | .decXh | .ldiXh _ | .staXh => [.xh]
  | .incYh | .decYh | .ldiYh _ | .staYh => [.yh]
  | .incUh | .decUh | .ldiUh _ | .staUh => [.uh]
  | .ldeX | .linX => [.a, .xl, .xh]
  | .ldeY | .linY => [.a, .yl, .yh]
  | .ldeU | .linU => [.a, .ul, .uh]
  | .tin => [.xl, .xh, .yl, .yh]
  | _ => []

/-- Whether an instruction moves or loads S (10_state.md R15). -/
def movesS (i : Instr) : Bool :=
  match i with
  | .ldiS _ _ | .stxS | .pshX | .pshY | .pshU | .pshA | .popX | .popY | .popU | .popA | .sjp _ _ | .vejC0
    | .vejC2 | .vejC4 | .vejC6 | .vejC8 | .vejCA | .vejCC | .vejCE | .vejD0 | .vejD2 | .vejD4 | .vejD6 | .vejD8
    | .vejDA | .vejDC | .vejDE | .vejE0 | .vejE2 | .vejE4 | .vejE6 | .vejE8 | .vejEA | .vejEC | .vejEE | .vejF0
    | .vejF2 | .vejF4 | .vejF6 | .vmj _ | .vcs _ | .vcr _ | .vhs _ | .vhr _ | .vzs _ | .vzr _ | .vvs _ | .rtn
    | .rti => true
  | _ => false

/-- Whether an instruction can write P beyond the fetch (10_state.md R13). -/
def movesP (i : Instr) : Bool :=
  match i with
  | .stxP | .jmp _ _ | .bchFwd _ | .bchBack _ | .bcsFwd _ | .bcsBack _ | .bcrFwd _ | .bcrBack _ | .bhsFwd _
    | .bhsBack _ | .bhrFwd _ | .bhrBack _ | .bzsFwd _ | .bzsBack _ | .bzrFwd _ | .bzrBack _ | .bvsFwd _
    | .bvsBack _ | .bvrFwd _ | .bvrBack _ | .lop _ | .sjp _ _ | .vejC0 | .vejC2 | .vejC4 | .vejC6 | .vejC8
    | .vejCA | .vejCC | .vejCE | .vejD0 | .vejD2 | .vejD4 | .vejD6 | .vejD8 | .vejDA | .vejDC | .vejDE | .vejE0
    | .vejE2 | .vejE4 | .vejE6 | .vejE8 | .vejEA | .vejEC | .vejEE | .vejF0 | .vejF2 | .vejF4 | .vejF6 | .vmj _
    | .vcs _ | .vcr _ | .vhs _ | .vhr _ | .vzs _ | .vzr _ | .vvs _ | .rtn | .rti => true
  | _ => false

/-- The flags an instruction can write (10_state.md R16 to R20, 60_exceptions.md R303). -/
def flagsWritten (i : Instr) : List Flag :=
  match i with
  | .adcXl | .adcIndX | .adcYl | .adcIndY | .adcUl | .adcIndU | .adcXh | .adcYh | .adcUh | .adcAbs _ _
    | .adcInd1X | .adcInd1Y | .adcInd1U | .adcAbs1 _ _ | .adiIndX _ | .adiIndY _ | .adiIndU _ | .adiA _
    | .adiAbs _ _ _ | .adiInd1X _ | .adiInd1Y _ | .adiInd1U _ | .adiAbs1 _ _ _ | .dcaIndX | .dcaIndY | .dcaIndU
    | .dcaInd1X | .dcaInd1Y | .dcaInd1U | .adrX | .adrY | .adrU | .sbcXl | .sbcIndX | .sbcYl | .sbcIndY | .sbcUl
    | .sbcIndU | .sbcXh | .sbcYh | .sbcUh | .sbcAbs _ _ | .sbcInd1X | .sbcInd1Y | .sbcInd1U | .sbcAbs1 _ _
    | .sbiA _ | .dcsIndX | .dcsIndY | .dcsIndU | .dcsInd1X | .dcsInd1Y | .dcsInd1U | .incXl | .incYl | .incUl
    | .incA | .incXh | .incYh | .incUh | .decXl | .decYl | .decUl | .decA | .decXh | .decYh | .decUh | .cpaXl
    | .cpaIndX | .cpaYl | .cpaIndY | .cpaUl | .cpaIndU | .cpaXh | .cpaYh | .cpaUh | .cpaAbs _ _ | .cpaInd1X
    | .cpaInd1Y | .cpaInd1U | .cpaAbs1 _ _ | .cpiXh _ | .cpiXl _ | .cpiYh _ | .cpiYl _ | .cpiUh _ | .cpiUl _
    | .cpiA _ | .cin | .rol | .ror | .shl | .shr => [.c, .h, .v, .z]
  | .andIndX | .andIndY | .andIndU | .andAbs _ _ | .andInd1X | .andInd1Y | .andInd1U | .andAbs1 _ _ | .aniIndX _
    | .aniIndY _ | .aniIndU _ | .aniA _ | .aniAbs _ _ _ | .aniInd1X _ | .aniInd1Y _ | .aniInd1U _
    | .aniAbs1 _ _ _ | .oraIndX | .oraIndY | .oraIndU | .oraAbs _ _ | .oraInd1X | .oraInd1Y | .oraInd1U
    | .oraAbs1 _ _ | .oriIndX _ | .oriIndY _ | .oriIndU _ | .oriA _ | .oriAbs _ _ _ | .oriInd1X _ | .oriInd1Y _
    | .oriInd1U _ | .oriAbs1 _ _ _ | .eorIndX | .eorIndY | .eorIndU | .eorAbs _ _ | .eorInd1X | .eorInd1Y
    | .eorInd1U | .eorAbs1 _ _ | .eai _ | .bitIndX | .bitIndY | .bitIndU | .bitAbs _ _ | .bitInd1X | .bitInd1Y
    | .bitInd1U | .bitAbs1 _ _ | .biiIndX _ | .biiIndY _ | .biiIndU _ | .biiA _ | .biiAbs _ _ _ | .biiInd1X _
    | .biiInd1Y _ | .biiInd1U _ | .biiAbs1 _ _ _ | .ldaXl | .ldaIndX | .ldaYl | .ldaIndY | .ldaUl | .ldaIndU
    | .ldaXh | .ldaYh | .ldaUh | .ldaAbs _ _ | .ldaInd1X | .ldaInd1Y | .ldaInd1U | .ldaAbs1 _ _ | .ldeX | .ldeY
    | .ldeU | .linX | .linY | .linU | .ldiA _ | .popA | .tta | .ita | .vejC0 | .vejC2 | .vejC4 | .vejC6 | .vejC8
    | .vejCA | .vejCC | .vejCE | .vejD0 | .vejD2 | .vejD4 | .vejD6 | .vejD8 | .vejDA | .vejDC | .vejDE | .vejE0
    | .vejE2 | .vejE4 | .vejE6 | .vejE8 | .vejEA | .vejEC | .vejEE | .vejF0 | .vejF2 | .vejF4 | .vejF6 | .vmj _
    | .vcs _ | .vcr _ | .vhs _ | .vhr _ | .vzs _ | .vzr _ | .vvs _ => [.z]
  | .att | .rti => [.c, .ie, .z, .v, .h]
  | .secC | .recC => [.c]
  | .sie | .rie => [.ie]
  | _ => []

end Sys2Proof.Machine
end

