-- ==== Sys2Proof/WellFormed.lean ====
section
/-! DEFINITION. Which instructions the manual allows to be written. -/

namespace Sys2Proof

/-- The vector-table offset an instruction carries, if it is VMJ or a conditional vector call. -/
def Instr.vectorOffset? : Instr → Option Byte
  | .vmj i => some i
  | .vcs i => some i
  | .vcr i => some i
  | .vhs i => some i
  | .vhr i => some i
  | .vzs i => some i
  | .vzr i => some i
  | .vvs i => some i
  | _ => none

/-- The one restriction on operand values: "Immediate value i may take even number of 00H thru F6H" (47_subroutine.md
R222, R223 to R229). Every other operand byte may take every value. -/
def Instr.wellFormed (i : Instr) : Bool :=
  match i.vectorOffset? with
  | some v => decide (v.toNat % 2 = 0) && decide (v.toNat ≤ 0xF6)
  | none => true

end Sys2Proof
end

