-- ==== Sys2Proof/Certificates/Slice0/Obligations.lean ====
section
/-! DEFINITION. The statements for the provers. First decoding, then what the operations over memory and registers do,
then what every instruction does, then the machine: reset, interrupts, the timer, the I/O port controller, and what no
step and no instruction changes. -/

open Sys2Proof Sys2Proof.Machine

/-! ### Decoding and encoding -/

/-- Decode and encode agree, for every instruction with every operand value and for every byte sequence: the decoder
reads instruction `i` and leaves `rest` exactly when the bytes are the encoding of `i` followed by `rest`. So each
instruction has one encoding, and no bit of it is ignored (30_encoding.md R71, R75). -/
def Obligations.DecodeEncodeAgree : Prop :=
  ∀ (bs rest : List Byte) (i : Instr), decode bs = .ok (i, rest) ↔ bs = encode i ++ rest

/-- An instruction takes 1 to 5 bytes, and as many as R75's list gives for its first byte or, after FDH, its first
two (30_encoding.md R60, R75). -/
def Obligations.InstructionLength : Prop :=
  ∀ (bs rest : List Byte) (i : Instr), decode bs = .ok (i, rest) →
    bs.length = instrLength bs + rest.length ∧ 1 ≤ instrLength bs ∧ instrLength bs ≤ 5

/-- Words written out from the encodings of the spec decode to the instructions they stand for, one of each family. -/
def Obligations.SampleWordsDecode : Prop :=
  decode [0xA3#8, 0x47#8, 0x01#8] = .ok (.adcAbs 0x47#8 0x01#8, []) ∧
  decode [0xFD#8, 0xEF#8, 0x47#8, 0x01#8, 0x20#8] = .ok (.adiAbs1 0x47#8 0x01#8 0x20#8, []) ∧
  decode [0xFD#8, 0xCA#8] = .ok (.adrX, []) ∧
  decode [0x6C#8, 0x77#8] = .ok (.cpiUh 0x77#8, []) ∧
  decode [0xAA#8, 0x78#8, 0x4F#8] = .ok (.ldiS 0x78#8 0x4F#8, []) ∧
  decode [0xFD#8, 0x5E#8] = .ok (.stxP, []) ∧
  decode [0xF5#8] = .ok (.tin, []) ∧
  decode [0xDB#8] = .ok (.rol, []) ∧
  decode [0xFD#8, 0xD7#8] = .ok (.drlInd1X, []) ∧
  decode [0xFD#8, 0xB1#8] = .ok (.hlt, []) ∧
  decode [0x93#8, 0x0E#8] = .ok (.bcsBack 0x0E#8, []) ∧
  decode [0x88#8, 0x03#8] = .ok (.lop 0x03#8, []) ∧
  decode [0xC4#8] = .ok (.vejC4, []) ∧
  decode [0xCD#8, 0x96#8] = .ok (.vmj 0x96#8, []) ∧
  decode [0x8A#8] = .ok (.rti, [])

/-- The bytes with no listed instruction are rejected by name, and the fetch of one stops the machine: the 45 bytes
of the first page, and on the second page every byte but the 100 of R69, 156 codes (30_encoding.md R70). That the
model stops at one is the spec's decision D3 (log 12). -/
def Obligations.UnlistedOpcodesRejected : Prop :=
  (∀ (op : Byte) (rest : List Byte), op.toNat ∈
      [0x30, 0x31, 0x32, 0x33, 0x34, 0x35, 0x36, 0x37, 0x39, 0x3A, 0x3B, 0x3C, 0x3D, 0x3E, 0x3F,
       0x70, 0x71, 0x72, 0x73, 0x74, 0x75, 0x76, 0x77, 0x78, 0x79, 0x7A, 0x7B, 0x7C, 0x7D, 0x7E, 0x7F,
       0x98, 0xB0, 0xB2, 0xB4, 0xB6, 0xBC, 0xE5, 0xE7, 0xF3, 0xF8, 0xFA, 0xFC, 0xFE, 0xFF] →
      decode (op :: rest) = .error (.illegalOpcode false op)) ∧
  (∀ (op : Byte) (rest : List Byte), op.toNat ∉
      [0x01, 0x03, 0x05, 0x07, 0x08, 0x09, 0x0A, 0x0B, 0x0C, 0x0D, 0x0E, 0x0F,
       0x11, 0x13, 0x15, 0x17, 0x18, 0x19, 0x1A, 0x1B, 0x1C, 0x1D, 0x1E, 0x1F,
       0x21, 0x23, 0x25, 0x27, 0x28, 0x29, 0x2A, 0x2B, 0x2C, 0x2D, 0x2E, 0x2F,
       0x40, 0x42, 0x48, 0x49, 0x4A, 0x4B, 0x4C, 0x4D, 0x4E, 0x4F, 0x50, 0x52, 0x58, 0x59, 0x5A, 0x5B, 0x5D, 0x5E, 0x5F,
       0x60, 0x62, 0x69, 0x6A, 0x6B, 0x6D, 0x6F, 0x81, 0x88, 0x8A, 0x8C, 0x8E, 0x98, 0x9C,
       0xA1, 0xA3, 0xA5, 0xA7, 0xA8, 0xA9, 0xAA, 0xAB, 0xAC, 0xAD, 0xAE, 0xAF, 0xB1, 0xBA, 0xBE,
       0xC0, 0xC1, 0xC8, 0xCA, 0xCC, 0xCE, 0xD3, 0xD7, 0xDA, 0xDE, 0xE9, 0xEA, 0xEB, 0xEC, 0xED, 0xEF] →
      decode (0xFD#8 :: op :: rest) = .error (.illegalOpcode true op)) ∧
  (∀ (s : State) (op : Byte), s.cpuTurn → s.wa = false → s.pendingInterrupt = none → s.halted = false →
      (s.bytesAt s.p [op] → decode [op] = .error (.illegalOpcode false op) → step s = .fault (.illegalOpcode false op)) ∧
      (s.bytesAt s.p [0xFD#8, op] → decode [0xFD#8, op] = .error (.illegalOpcode true op) →
        step s = .fault (.illegalOpcode true op)))

/-! ### Operations over memory and registers -/

/-- The adder gives the sum, carry, half carry, signed overflow and zero test of integer arithmetic, and on the one's
complement of its second operand the difference with C as "no borrow" (10_state.md R17 to R21). -/
def Obligations.AdderMeaning : Prop :=
  ∀ (a b : Byte) (cin : Bool), add8 a b cin = addMeaning a b cin ∧ sub8 a b cin = subMeaning a b cin

/-- A register pair is its high byte times 256 plus its low byte, and pair and halves are the same storage: a write
of one register changes that one alone, a write of a pair its two halves alone (10_state.md R12). The operand forms
(30_encoding.md R64): a register operand is the register; `(Rreg)` and `#(Rreg)` are the byte at the pair's address
in ME0 and ME1; `(ab)` and `#(ab)` the byte at the address with `a` the high and `b` the low byte. Writing an operand
writes the same place. -/
def Obligations.RegistersAndOperands : Prop :=
  ∀ (s : State) (r : Reg8) (sp : Space) (p : Pair) (a b v : Byte) (w : Addr),
    (s.pair p).toNat = 256 * (s.reg p.hi).toNat + (s.reg p.lo).toNat ∧
    (∀ q, (s.setReg r v).reg q = if q = r then v else s.reg q) ∧
    (s.setPair p w).pair p = w ∧ (∀ q, q ≠ p.hi → q ≠ p.lo → (s.setPair p w).reg q = s.reg q) ∧
    s.readOperand (.reg r) = (s.reg r, s) ∧ s.writeOperand (.reg r) v = s.setReg r v ∧
    s.readOperand (.ind sp p) = s.busRead sp (s.pair p) ∧ s.writeOperand (.ind sp p) v = s.busWrite sp (s.pair p) v ∧
    s.readOperand (.abs sp a b) = s.busRead sp (ofBytes a b) ∧
    s.writeOperand (.abs sp a b) v = s.busWrite sp (ofBytes a b) v ∧
    (ofBytes a b).toNat = 256 * a.toNat + b.toNat

/-- What a bus cycle does by what stands at its address (20_memory.md R48): RAM gives and takes its byte, ROM gives
its byte and ignores a write, an absent address ignores a write and a read of it changes nothing but the count of
free values, a device's reads and writes go to the host, an address whose byte R58 states (the board's pull-ups, a
byte of the CE-150's ROM) gives it and ignores a write. A controller's register is selected by the low four address bits, a cycle answers
and leaves it as Ioc.read and Ioc.write give, but that a write which makes PB7 rise may set IF1; a byte written to +6
goes to the serial output, and IR2 is set on a rise of the line to MI (60_exceptions.md R331, R332, R336). The map
and the answers of absent and device addresses are the spec's decision D20 (log 5, log 6); the events in `out` are
the model's own (log 16), the edge of PB7 is log 18. -/
def Obligations.BusCycleByMap : Prop :=
  ∀ (s : State) (sp : Space) (a : Addr) (v : Byte),
    (∀ k, s.resolve sp a = .ram k →
      s.busRead sp a = (s.mem.read (cellOf k a), s) ∧
      s.busWrite sp a v = { s with mem := s.mem.write (cellOf k a) v }) ∧
    (∀ k, s.resolve sp a = .rom k →
      s.busRead sp a = (s.mem.read (cellOf k a), s) ∧ s.busWrite sp a v = s) ∧
    (s.resolve sp a = .absent → (s.busRead sp a).2 = { s with draws := s.draws + 1 } ∧ s.busWrite sp a v = s) ∧
    (s.resolve sp a = .device →
      (s.busRead sp a).2 =
        { s with draws := s.draws + 1, out := .deviceRead sp a (s.busRead sp a).1 :: s.out } ∧
      s.busWrite sp a v = { s with out := .deviceWrite sp a v :: s.out }) ∧
    (∀ x, s.resolve sp a = .fixed x → s.busRead sp a = (x, s) ∧ s.busWrite sp a v = s) ∧
    (∀ u, s.resolve sp a = .ioc u →
      (∃ free, let r := (s.ioc u).read (a.setWidth 4) free
        (s.busRead sp a).1 = r.1 ∧
        (s.busRead sp a).2 = { s with
          iocs := s.iocs.put u r.2, draws := s.draws + 1
          ir2 := s.ir2 || (!s.miLine && (s.busRead sp a).2.miLine) }) ∧
      (∃ edge, let d := (s.ioc u).write (a.setWidth 4) v
        s.busWrite sp a v = { s with
          iocs := s.iocs.put u { d with if1 := d.if1 || edge }, draws := s.draws + 1
          out := if a.toNat % 16 = 6 then .serialOut u v :: s.out else s.out
          ir2 := s.ir2 || (!s.miLine && (s.busWrite sp a v).miLine) } ∧
        (edge = true → (s.ioc u).portB.getLsbD 7 = false ∧ d.portB.getLsbD 7 = true)))

/-- In a canonical memory a read after a write to the same RAM cell gives the byte written, and every other cell
reads as before (20_memory.md R50). -/
def Obligations.ReadAfterWrite : Prop :=
  ∀ (s : State) (sp : Space) (a : Addr) (v : Byte) (k : Nat), s.Inv → s.ramCell sp a = some k →
    ((s.busWrite sp a v).busRead sp a).1 = v ∧
    (∀ (sp' : Space) (b : Addr) (j : Nat), s.readCell sp' b = some j → j ≠ k →
      ((s.busWrite sp a v).busRead sp' b).1 = (s.busRead sp' b).1)

/-- Where the memory map names nothing, ME0 and ME1 are two separate memories of 65,536 bytes: a byte written in one
space is read back at that address of that space, and no other address of either space changes (20_memory.md R40,
R46). That an address no region names is RAM is the spec's default (decision D20, log 5). -/
def Obligations.SpacesAreSeparate : Prop :=
  ∀ (s : State) (sp sp' : Space) (a b : Addr) (v : Byte), s.Inv → s.board.map = [] →
    ((s.busWrite sp a v).busRead sp' b).1 = if sp' = sp ∧ b = a then v else (s.busRead sp' b).1

/-- A pushed 16-bit value lies with its low byte at S and its high byte at S - 1, S moves down by two, and popping
gives the value back and S its old value; a pushed byte likewise, where the stack is in RAM (20_memory.md R43,
10_state.md R15). -/
def Obligations.StackLayout : Prop :=
  ∀ (s : State) (w : Addr) (v : Byte) (j k : Nat), s.Inv → s.ramCell .me0 s.sp = some j →
    s.ramCell .me0 (s.sp - 1) = some k → j ≠ k →
    (s.push16 w).mem.read j = loByte w ∧ (s.push16 w).mem.read k = hiByte w ∧ (s.push16 w).sp = s.sp - 2 ∧
    (s.push16 w).pop16.1 = w ∧ (s.push16 w).pop16.2.sp = s.sp ∧
    (s.push v).mem.read j = v ∧ (s.push v).sp = s.sp - 1 ∧ (s.push v).pop.1 = v ∧ (s.push v).pop.2.sp = s.sp

/-! ### Add, subtract and logical instructions -/

/-- ADC: `A + [operand] + C -> A` with C, H, V, Z of the sum, in every form (40_arith_logic.md R100). -/
def Obligations.AdcResult : Prop :=
  ∀ (a b : Byte) (f : Form Operand), f ∈ adcForms a b → f.Encodes ∧ ∀ s : State,
    let m := s.readOperand f.what
    let r := addMeaning s.a m.1 s.c
    exec f.instr s = .next { m.2.withFlags r with a := r.sum }

/-- ADI: `A + i + C -> A` for the accumulator; `[operand] + i -> [operand]` without carry-in for memory, A unchanged
(40_arith_logic.md R101). -/
def Obligations.AdiResult : Prop :=
  ∀ (a b i : Byte),
    ((Form.mk [0xB3#8, i] (.adiA i) ()).Encodes ∧ ∀ s : State,
      exec (.adiA i) s = .next { s.withFlags (addMeaning s.a i s.c) with a := (addMeaning s.a i s.c).sum }) ∧
    ∀ f ∈ adiForms a b i, f.Encodes ∧ ∀ s : State,
      let m := s.readOperand f.what
      let r := addMeaning m.1 i false
      exec f.instr s = .next ((m.2.writeOperand f.what r.sum).withFlags r)

/-- DCA: the flags are those of `A + 66H + [operand] + C` alone; A is that sum plus the correction DA, which C and H
of it choose (40_arith_logic.md R102; that Z and V too are those of this sum is decision D21, log 24). -/
def Obligations.DcaResult : Prop :=
  ∀ f ∈ dcaForms, f.Encodes ∧ ∀ s : State,
    let m := s.readOperand f.what
    let r := addMeaning (s.a + 0x66#8) m.1 s.c
    let da : Byte := match r.c, r.h with
      | false, false => 0x9A#8
      | false, true => 0xA0#8
      | true, false => 0xFA#8
      | true, true => 0x00#8
    exec f.instr s = .next { m.2.withFlags r with a := r.sum + da }

/-- ADR: the accumulator is added to the pair, 16 bits wide; C, H, V and Z are those of the addition to the low byte
alone, A is unchanged (40_arith_logic.md R103). -/
def Obligations.AdrResult : Prop :=
  ∀ f ∈ adrForms, f.Encodes ∧ ∀ s : State,
    let r := addMeaning (s.reg f.what.lo) s.a false
    exec f.instr s = .next ((s.setPair f.what (s.pair f.what + s.a.setWidth 16)).withFlags r)

/-- SBC and SBI: `A - [operand] - (1 - C) -> A` with C as "no borrow" (40_arith_logic.md R104, R105). -/
def Obligations.SbcSbiResult : Prop :=
  ∀ (a b i : Byte),
    (∀ f ∈ sbcForms a b, f.Encodes ∧ ∀ s : State,
      let m := s.readOperand f.what
      let r := subMeaning s.a m.1 s.c
      exec f.instr s = .next { m.2.withFlags r with a := r.sum }) ∧
    (Form.mk [0xB1#8, i] (.sbiA i) ()).Encodes ∧ ∀ s : State,
      exec (.sbiA i) s = .next { s.withFlags (subMeaning s.a i s.c) with a := (subMeaning s.a i s.c).sum }

/-- DCS: the flags are those of `A - [operand] - (1 - C)` alone; A is that difference plus the correction DA
(40_arith_logic.md R106; that Z and V too are those of this step is decision D21, log 24). -/
def Obligations.DcsResult : Prop :=
  ∀ f ∈ dcsForms, f.Encodes ∧ ∀ s : State,
    let m := s.readOperand f.what
    let r := subMeaning s.a m.1 s.c
    let da : Byte := match r.c, r.h with
      | false, false => 0x9A#8
      | false, true => 0xA0#8
      | true, false => 0xFA#8
      | true, true => 0x00#8
    exec f.instr s = .next { m.2.withFlags r with a := r.sum + da }

/-- On two bytes of decimal digits DCA leaves the decimal sum modulo 100, again two decimal digits, and the decimal
carry in C; DCS leaves the decimal difference modulo 100, and C is "no decimal borrow" (40_arith_logic.md R102, R106,
corner cases). -/
def Obligations.DecimalArithmetic : Prop :=
  (∀ f ∈ dcaForms, ∀ s : State, validBcd s.a → validBcd (s.readOperand f.what).1 →
    ∃ t, exec f.instr s = .next t ∧ validBcd t.a ∧
      bcdValue t.a = (bcdValue s.a + bcdValue (s.readOperand f.what).1 + s.c.toNat) % 100 ∧
      t.c = decide (100 ≤ bcdValue s.a + bcdValue (s.readOperand f.what).1 + s.c.toNat)) ∧
  ∀ f ∈ dcsForms, ∀ s : State, validBcd s.a → validBcd (s.readOperand f.what).1 →
    ∃ t, exec f.instr s = .next t ∧ validBcd t.a ∧
      (bcdValue t.a : Int) = ((bcdValue s.a : Int) - bcdValue (s.readOperand f.what).1 - (!s.c).toNat) % 100 ∧
      t.c = decide (bcdValue (s.readOperand f.what).1 + (!s.c).toNat ≤ bcdValue s.a)

/-- AND, ORA, EOR and EAI: the logical result in A, Z its zero test, no other flag (40_arith_logic.md R107, R109,
R111, R112). -/
def Obligations.LogicToA : Prop :=
  ∀ (a b i : Byte),
    (∀ f ∈ andForms a b, f.Encodes ∧ ∀ s : State,
      let m := s.readOperand f.what
      exec f.instr s = .next { m.2 with a := s.a &&& m.1, z := decide (s.a &&& m.1 = 0#8) }) ∧
    (∀ f ∈ oraForms a b, f.Encodes ∧ ∀ s : State,
      let m := s.readOperand f.what
      exec f.instr s = .next { m.2 with a := s.a ||| m.1, z := decide (s.a ||| m.1 = 0#8) }) ∧
    (∀ f ∈ eorForms a b, f.Encodes ∧ ∀ s : State,
      let m := s.readOperand f.what
      exec f.instr s = .next { m.2 with a := s.a ^^^ m.1, z := decide (s.a ^^^ m.1 = 0#8) }) ∧
    (Form.mk [0xBD#8, i] (.eai i) ()).Encodes ∧ ∀ s : State,
      exec (.eai i) s = .next { s with a := s.a ^^^ i, z := decide (s.a ^^^ i = 0#8) }

/-- ANI and ORI: the logical result goes back to the operand, A or memory; Z is its zero test, no other flag changes
(40_arith_logic.md R108, R110). -/
def Obligations.LogicImmediate : Prop :=
  ∀ (a b i : Byte),
    (∀ f ∈ aniForms a b i, f.Encodes ∧ ∀ s : State,
      let m := s.readOperand f.what
      exec f.instr s = .next { m.2.writeOperand f.what (m.1 &&& i) with z := decide (m.1 &&& i = 0#8) }) ∧
    (∀ f ∈ oriForms a b i, f.Encodes ∧ ∀ s : State,
      let m := s.readOperand f.what
      exec f.instr s = .next { m.2.writeOperand f.what (m.1 ||| i) with z := decide (m.1 ||| i = 0#8) })

/-- INC and DEC: an 8-bit register with the flags of adding 01H or FFH; a pair modulo 65,536 with no flag
(40_arith_logic.md R113, R114; the 8-bit flag formula is the spec's decision D22, log 24). -/
def Obligations.IncDecResult : Prop :=
  (∀ f ∈ incForms, f.Encodes ∧ ∀ s : State,
    let r := addMeaning (s.reg f.what) 0x01#8 false
    exec f.instr s = .next ((s.setReg f.what r.sum).withFlags r)) ∧
  (∀ f ∈ decForms, f.Encodes ∧ ∀ s : State,
    let r := addMeaning (s.reg f.what) 0xFF#8 false
    exec f.instr s = .next ((s.setReg f.what r.sum).withFlags r)) ∧
  (∀ f ∈ incPairForms, f.Encodes ∧ ∀ s : State,
    exec f.instr s = .next (s.setPair f.what (s.pair f.what + 1))) ∧
  (∀ f ∈ decPairForms, f.Encodes ∧ ∀ s : State,
    exec f.instr s = .next (s.setPair f.what (s.pair f.what - 1)))

/-! ### Compare and bit test -/

/-- CPA and CPI: C is "not below" and Z "equal" of the unsigned comparison, H and V are those of the subtraction, the
C flag before is not read, and nothing else changes (41_compare_bittest.md R120, R121). -/
def Obligations.CompareResult : Prop :=
  ∀ (a b i : Byte),
    (∀ f ∈ cpaForms a b, f.Encodes ∧ ∀ s : State,
      let m := s.readOperand f.what
      let r := subMeaning s.a m.1 true
      exec f.instr s =
        .next { m.2 with c := decide (m.1.toNat ≤ s.a.toNat), z := decide (s.a = m.1), h := r.h, v := r.v }) ∧
    (∀ f ∈ cpiForms i, f.Encodes ∧ ∀ s : State,
      let r := subMeaning (s.reg f.what) i true
      exec f.instr s =
        .next { s with
          c := decide (i.toNat ≤ (s.reg f.what).toNat), z := decide (s.reg f.what = i), h := r.h, v := r.v })

/-- BIT and BII: Z is the zero test of the AND, nothing else changes (41_compare_bittest.md R122, R123). -/
def Obligations.BitTestResult : Prop :=
  ∀ (a b i : Byte),
    (∀ f ∈ bitForms a b, f.Encodes ∧ ∀ s : State,
      let m := s.readOperand f.what
      exec f.instr s = .next { m.2 with z := decide (s.a &&& m.1 = 0#8) }) ∧
    (∀ f ∈ biiForms a b i, f.Encodes ∧ ∀ s : State,
      let m := s.readOperand f.what
      exec f.instr s = .next { m.2 with z := decide (m.1 &&& i = 0#8) })

/-! ### Transfer -/

/-- LDA and LDI: the operand or the immediate goes to its register, Z is written for the accumulator only. LDE and
LIN: the byte at the pair goes to A with Z its zero test, and the pair moves down or up by one (42_transfer.md R130
to R133). -/
def Obligations.LoadResult : Prop :=
  ∀ (a b i j : Byte),
    (∀ f ∈ ldaForms a b, f.Encodes ∧ ∀ s : State,
      let m := s.readOperand f.what
      exec f.instr s = .next { m.2 with a := m.1, z := decide (m.1 = 0#8) }) ∧
    ((Form.mk [0xB5#8, i] (.ldiA i) ()).Encodes ∧ ∀ s : State,
      exec (.ldiA i) s = .next { s with a := i, z := decide (i = 0#8) }) ∧
    (∀ f ∈ ldiForms i, f.Encodes ∧ ∀ s : State, exec f.instr s = .next (s.setReg f.what i)) ∧
    ((Form.mk [0xAA#8, i, j] (.ldiS i j) ()).Encodes ∧ ∀ s : State,
      exec (.ldiS i j) s = .next { s with sp := ofBytes i j }) ∧
    (∀ f ∈ ldeForms, f.Encodes ∧ ∀ s : State,
      let m := s.busRead .me0 (s.pair f.what)
      exec f.instr s = .next { m.2.setPair f.what (s.pair f.what - 1) with a := m.1, z := decide (m.1 = 0#8) }) ∧
    (∀ f ∈ linForms, f.Encodes ∧ ∀ s : State,
      let m := s.busRead .me0 (s.pair f.what)
      exec f.instr s = .next { m.2.setPair f.what (s.pair f.what + 1) with a := m.1, z := decide (m.1 = 0#8) })

/-- STA stores A in its operand with no flag; SDE and SIN store A at the pair and then move the pair down or up by
one (42_transfer.md R135, R136, R137). -/
def Obligations.StoreResult : Prop :=
  ∀ (a b : Byte),
    (∀ f ∈ staForms a b, f.Encodes ∧ ∀ s : State, exec f.instr s = .next (s.writeOperand f.what s.a)) ∧
    (∀ f ∈ sdeForms, f.Encodes ∧ ∀ s : State,
      exec f.instr s = .next ((s.busWrite .me0 (s.pair f.what) s.a).setPair f.what (s.pair f.what - 1))) ∧
    (∀ f ∈ sinForms, f.Encodes ∧ ∀ s : State,
      exec f.instr s = .next ((s.busWrite .me0 (s.pair f.what) s.a).setPair f.what (s.pair f.what + 1)))

/-- LDX copies a pair, S or P to X and STX copies X to a pair, S or P; P is the address after the instruction, and no
flag changes (42_transfer.md R134, R138; `LDX P`, `STX P`, `LDX X` and `STX X` are the spec's decision D27). -/
def Obligations.WideTransfer : Prop :=
  (∀ f ∈ ldxForms, f.Encodes ∧ ∀ s : State, exec f.instr s = .next (s.setPair .x (s.wide f.what))) ∧
  (∀ f ∈ stxForms, f.Encodes ∧ ∀ s : State, exec f.instr s = .next (s.setWide f.what (s.pair .x)))

/-- PSH pushes A, or the low and then the high byte of a pair; POP pops A with Z its zero test, or the high and then
the low byte of a pair with no flag (42_transfer.md R139, R140). -/
def Obligations.PushPopResult : Prop :=
  ((Form.mk [0xFD#8, 0xC8#8] .pshA ()).Encodes ∧ ∀ s : State,
    exec .pshA s = .next { s.busWrite .me0 s.sp s.a with sp := s.sp - 1 }) ∧
  (∀ f ∈ pshForms, f.Encodes ∧ ∀ s : State,
    exec f.instr s = .next { (s.busWrite .me0 s.sp (s.reg f.what.lo)).busWrite .me0 (s.sp - 1) (s.reg f.what.hi) with
      sp := s.sp - 2 }) ∧
  ((Form.mk [0xFD#8, 0x8A#8] .popA ()).Encodes ∧ ∀ s : State,
    let m := s.busRead .me0 (s.sp + 1)
    exec .popA s = .next { m.2 with a := m.1, z := decide (m.1 = 0#8), sp := s.sp + 1 }) ∧
  (∀ f ∈ popForms, f.Encodes ∧ ∀ s : State,
    let hi := s.busRead .me0 (s.sp + 1)
    let lo := hi.2.busRead .me0 (s.sp + 2)
    exec f.instr s = .next { (lo.2.setReg f.what.hi hi.1).setReg f.what.lo lo.1 with sp := s.sp + 2 })

/-- ATT writes the five flags from bits 0 to 4 of A and leaves A; TTA puts `000 H V Z IE C` into A and writes Z as
the zero test of that byte (42_transfer.md R141, R142; bits 7 to 5 are decision D12, log 23). -/
def Obligations.StatusTransfer : Prop :=
  ((Form.mk [0xFD#8, 0xEC#8] .att ()).Encodes ∧ ∀ s : State,
    exec .att s = .next { s with
      c := s.a.getLsbD 0, ie := s.a.getLsbD 1, z := s.a.getLsbD 2, v := s.a.getLsbD 3, h := s.a.getLsbD 4 }) ∧
  (Form.mk [0xFD#8, 0xAA#8] .tta ()).Encodes ∧ ∀ s : State, ∃ t,
    exec .tta s = .next { s with a := t, z := decide (t = 0#8) } ∧
    t.toNat = s.c.toNat + 2 * s.ie.toNat + 4 * s.z.toNat + 8 * s.v.toNat + 16 * s.h.toNat

/-! ### Block transfer, rotates and shifts -/

/-- TIN copies the byte at X to the byte at Y and moves both up by one, with no flag; CIN compares A with the byte at
X as CPA does and moves X up by one (43_block.md R150, R151). -/
def Obligations.BlockResult : Prop :=
  ((Form.mk [0xF5#8] .tin ()).Encodes ∧ ∀ s : State,
    let m := s.busRead .me0 (s.pair .x)
    exec .tin s = .next (((m.2.busWrite .me0 (s.pair .y) m.1).setPair .x (s.pair .x + 1)).setPair .y (s.pair .y + 1))) ∧
  (Form.mk [0xF7#8] .cin ()).Encodes ∧ ∀ s : State,
    let m := s.busRead .me0 (s.pair .x)
    let r := subMeaning s.a m.1 true
    exec .cin s = .next { m.2.setPair .x (s.pair .x + 1) with
      c := decide (m.1.toNat ≤ s.a.toNat), z := decide (s.a = m.1), h := r.h, v := r.v }

/-- ROL, ROR, SHL, SHR: A as a number is doubled or halved with the bit coming in, C is the bit going out, and H, V
and Z are three values of which nothing is said (44_rotate_shift.md R160 to R163, R167: decision D6); the count of
free values drawn is the model's own (log 10). -/
def Obligations.RotateShiftResult : Prop :=
  ((Form.mk [0xDB#8] .rol ()).Encodes ∧ ∀ s : State, ∃ h v z, exec .rol s = .next { s with
    a := BitVec.ofNat 8 (2 * s.a.toNat + s.c.toNat), c := decide (128 ≤ s.a.toNat), h := h, v := v, z := z,
    draws := s.draws + 3 }) ∧
  ((Form.mk [0xD1#8] .ror ()).Encodes ∧ ∀ s : State, ∃ h v z, exec .ror s = .next { s with
    a := BitVec.ofNat 8 (s.a.toNat / 2 + 128 * s.c.toNat), c := decide (s.a.toNat % 2 = 1), h := h, v := v, z := z,
    draws := s.draws + 3 }) ∧
  ((Form.mk [0xD9#8] .shl ()).Encodes ∧ ∀ s : State, ∃ h v z, exec .shl s = .next { s with
    a := BitVec.ofNat 8 (2 * s.a.toNat), c := decide (128 ≤ s.a.toNat), h := h, v := v, z := z,
    draws := s.draws + 3 }) ∧
  (Form.mk [0xD5#8] .shr ()).Encodes ∧ ∀ s : State, ∃ h v z, exec .shr s = .next { s with
    a := BitVec.ofNat 8 (s.a.toNat / 2), c := decide (s.a.toNat % 2 = 1), h := h, v := v, z := z,
    draws := s.draws + 3 }

/-- DRL and DRR: with `m` the byte at X, A receives `m`, and the byte becomes m's low digit over A's high digit (DRL)
or A's low digit over m's high digit (DRR); AEX swaps the digits of A. No flag changes (44_rotate_shift.md R164,
R165, R166; the fourth move of DRL is read as 90_conflicts.md C2 reads it). -/
def Obligations.DigitResult : Prop :=
  (∀ f ∈ drlForms, f.Encodes ∧ ∀ s : State,
    let m := s.busRead f.what (s.pair .x)
    exec f.instr s = .next
      { m.2.busWrite f.what (s.pair .x) (BitVec.ofNat 8 (16 * (m.1.toNat % 16) + s.a.toNat / 16)) with a := m.1 }) ∧
  (∀ f ∈ drrForms, f.Encodes ∧ ∀ s : State,
    let m := s.busRead f.what (s.pair .x)
    exec f.instr s = .next
      { m.2.busWrite f.what (s.pair .x) (BitVec.ofNat 8 (16 * (s.a.toNat % 16) + m.1.toNat / 16)) with a := m.1 }) ∧
  (Form.mk [0xF1#8] .aex ()).Encodes ∧ ∀ s : State,
    exec .aex s = .next { s with a := BitVec.ofNat 8 (16 * (s.a.toNat % 16) + s.a.toNat / 16) }

/-! ### CPU control -/

/-- SEC, REC, SPU, RPU, SPV, RPV, SDP, RDP, SIE, RIE set or reset one flip-flop and nothing else; CDV clears the
divider, NOP does nothing, OFF resets BF and the host sees BFO high, HLT stops the CPU (45_cpu_control.md R170 to
R172, R174 to R179, R181, R182, R185, R187, and the operation of R186). That CDV changes nothing else is decision D25
(log 32), that the CPU goes on after OFF decision D19 (log 30), the event in `out` the model's own (log 16). -/
def Obligations.FlipFlopResult : Prop :=
  (∀ f ∈ [Form.mk [0xFB#8] Instr.secC (), ⟨[0xF9#8], .recC, ()⟩, ⟨[0xE1#8], .spu, ()⟩, ⟨[0xE3#8], .rpu, ()⟩,
      ⟨[0xA8#8], .spv, ()⟩, ⟨[0xB8#8], .rpv, ()⟩, ⟨[0xFD#8, 0xC1#8], .sdp, ()⟩, ⟨[0xFD#8, 0xC0#8], .rdp, ()⟩,
      ⟨[0xFD#8, 0x81#8], .sie, ()⟩, ⟨[0xFD#8, 0xBE#8], .rie, ()⟩, ⟨[0xFD#8, 0x8E#8], .cdv, ()⟩, ⟨[0x38#8], .nop, ()⟩,
      ⟨[0xFD#8, 0x4C#8], .off, ()⟩, ⟨[0xFD#8, 0xB1#8], .hlt, ()⟩], f.Encodes) ∧
  ∀ s : State,
    exec .secC s = .next { s with c := true } ∧ exec .recC s = .next { s with c := false } ∧
    exec .spu s = .next { s with pu := true } ∧ exec .rpu s = .next { s with pu := false } ∧
    exec .spv s = .next { s with pv := true } ∧ exec .rpv s = .next { s with pv := false } ∧
    exec .sdp s = .next { s with disp := true } ∧ exec .rdp s = .next { s with disp := false } ∧
    exec .sie s = .next { s with ie := true } ∧ exec .rie s = .next { s with ie := false } ∧
    exec .cdv s = .next { s with divider := 0 } ∧ exec .nop s = .next s ∧
    exec .off s = .next { s with bf := false, out := .bfo true :: s.out } ∧
    exec .hlt s = .next { s with halted := true }

/-- AM0 loads `0 : A` into TM; AM1 loads `1 : A`, and loading 1FFH itself may or may not set IR1 and never clears it
(45_cpu_control.md R183, R184; the case of 1FFH is the spec's decision D15, log 11). -/
def Obligations.TimerLoadResult : Prop :=
  (∀ f ∈ [Form.mk [0xFD#8, 0xCE#8] Instr.am0 (), ⟨[0xFD#8, 0xDE#8], .am1, ()⟩], f.Encodes) ∧
  ∀ s : State,
    exec .am0 s = .next { s with tm := BitVec.ofNat 9 s.a.toNat } ∧
    (s.a ≠ 0xFF#8 → exec .am1 s = .next { s with tm := BitVec.ofNat 9 (256 + s.a.toNat) }) ∧
    (s.a = 0xFF#8 → ∃ free : Bool, exec .am1 s =
      .next { s with tm := 0x1FF#9, ir1 := s.ir1 || free, draws := s.draws + 1 })

/-- ITA copies the eight input pins to A with Z the zero test (that their levels are kept in State between moves is the
model's choice, log 4: by decision D11 each ITA draws a fresh byte); ATP gives the host A, with X on the address bus,
latches A into the OPC register of every controller whose clock the board wires to the pulse, and changes nothing
else but the count of free values (45_cpu_control.md R180, R173, decision D24; 60_exceptions.md R333; the
wiring is log 27, the event in `out` log 16, the count log 10). -/
def Obligations.PortResult : Prop :=
  (∀ f ∈ [Form.mk [0xFD#8, 0xBA#8] Instr.ita (), ⟨[0xFD#8, 0xCC#8], .atp, ()⟩], f.Encodes) ∧
  ∀ s : State,
    exec .ita s = .next { s with a := s.inPins, z := decide (s.inPins = 0#8) } ∧
    (s.board.phiLatch = [] → exec .atp s = .next { s with out := .portOut s.a (s.pair .x) :: s.out }) ∧
    ∃ (c : Iocs) (n : Nat),
      exec .atp s = .next { s with out := .portOut s.a (s.pair .x) :: s.out, iocs := c, draws := n } ∧
      ∀ u, c.get u = if u ∈ s.board.phiLatch then { s.ioc u with opc := s.a } else s.ioc u

/-! ### Jumps, calls and returns; P is the address after the instruction -/

/-- JMP loads P with `i : j`; BCH adds its distance to P or subtracts it, modulo 65,536; LOP takes UL down by one and
P back by the distance unless UL was 00H; no flag changes (46_jump.md R200, R201, R210). -/
def Obligations.JumpResult : Prop :=
  ∀ (i j : Byte),
    ((Form.mk [0xBA#8, i, j] (.jmp i j) ()).Encodes ∧ ∀ s : State,
      exec (.jmp i j) s = .next { s with p := ofBytes i j }) ∧
    (∀ f ∈ bchForms i, f.Encodes ∧ ∀ s : State,
      exec f.instr s = .next { s with p := if f.what then s.p - i.setWidth 16 else s.p + i.setWidth 16 }) ∧
    (Form.mk [0x88#8, i] (.lop i) ()).Encodes ∧ ∀ s : State,
      exec (.lop i) s = .next { s with ul := s.ul - 1, p := if s.ul = 0#8 then s.p else s.p - i.setWidth 16 }

/-- The sixteen conditional branches: with the flag at the value the form names, P moves by the distance modulo
65,536; else P stays; nothing else changes (46_jump.md R202 to R209). -/
def Obligations.BranchResult : Prop :=
  ∀ (i : Byte), ∀ f ∈ branchForms i, f.Encodes ∧ ∀ s : State,
    exec f.instr s = .next { s with
      p := if s.flag f.what.1 = f.what.2.1 then
          (if f.what.2.2 then s.p - i.setWidth 16 else s.p + i.setWidth 16)
        else s.p }

/-- SJP pushes the return address and loads P with `i : j`, no flag; the 28 forms of VEJ push it and take P from the
vector at FF00H + i, Z reset (47_subroutine.md R220, R221). -/
def Obligations.CallResult : Prop :=
  (∀ (i j : Byte), (Form.mk [0xBE#8, i, j] (.sjp i j) ()).Encodes ∧ ∀ s : State,
    exec (.sjp i j) s = .next { returnPushed s with p := ofBytes i j }) ∧
  ∀ f ∈ vejForms, f.Encodes ∧ ∀ s : State, exec f.instr s = .next (vectorCalled f.what s)

/-- VMJ and the seven conditional vector calls. The operand allowed is even and at most F6H: a call that is made with
it pushes the return address, takes P from the vector and resets Z. A call that is made with another operand stops
with it named. A call that is not made changes nothing, whatever the operand (47_subroutine.md R222 to R229; the stop
is the spec's decision D9, log 13, the flags of the conditional calls decision D23, log 24). -/
def Obligations.VectorCallResult : Prop :=
  ∀ (i : Byte),
    ((Form.mk [0xCD#8, i] (.vmj i) ()).Encodes ∧ ∀ s : State,
      (i.toNat % 2 = 0 ∧ i.toNat ≤ 0xF6 → exec (.vmj i) s = .next (vectorCalled i s)) ∧
      (¬ (i.toNat % 2 = 0 ∧ i.toNat ≤ 0xF6) → exec (.vmj i) s = .fault (.reservedOperand i))) ∧
    ∀ f ∈ vectorIfForms i, f.Encodes ∧ ∀ s : State,
      (s.flag f.what.1 ≠ f.what.2 → exec f.instr s = .next s) ∧
      (s.flag f.what.1 = f.what.2 → i.toNat % 2 = 0 ∧ i.toNat ≤ 0xF6 → exec f.instr s = .next (vectorCalled i s)) ∧
      (s.flag f.what.1 = f.what.2 → ¬ (i.toNat % 2 = 0 ∧ i.toNat ≤ 0xF6) →
        exec f.instr s = .fault (.reservedOperand i))

/-- RTN reads PH above S and PL above it, S up by two, no flag; RTI does the same and then reads T, bits 7 to 5
discarded, S up by three (48_return.md R240, R241; bits 7 to 5 are the spec's decision D12, log 23). -/
def Obligations.ReturnResult : Prop :=
  (Form.mk [0x9A#8] Instr.rtn ()).Encodes ∧ (Form.mk [0x8A#8] Instr.rti ()).Encodes ∧ ∀ s : State,
    let hi := s.busRead .me0 (s.sp + 1)
    let lo := hi.2.busRead .me0 (s.sp + 2)
    let t := lo.2.busRead .me0 (s.sp + 3)
    exec .rtn s = .next { lo.2 with p := ofBytes hi.1 lo.1, sp := s.sp + 2 } ∧
    exec .rti s = .next { t.2 with
      p := ofBytes hi.1 lo.1, sp := s.sp + 3, c := t.1.getLsbD 0, ie := t.1.getLsbD 1, z := t.1.getLsbD 2,
      v := t.1.getLsbD 3, h := t.1.getLsbD 4 }

/-- Every well-formed instruction completes in every state; an instruction stops only on an operand the manual does
not allow, by name, and none is refused (30_encoding.md closing sentence of section 3, 60_exceptions.md R300). -/
def Obligations.WellFormedCompletes : Prop :=
  ∀ (i : Instr) (s : State),
    (i.wellFormed = true → ∃ t, exec i s = .next t) ∧
    (∀ e, exec i s = .fault e → ∃ v, i.vectorOffset? = some v ∧ i.wellFormed = false ∧ e = .reservedOperand v) ∧
    (∀ r, exec i s ≠ .refused r)

/-! ### The step, and what no step does -/

/-- A step runs the decoded instruction: on the CPU's turn, with its clock running, not halted and no interrupt to
take, where bytes that decode to an instruction stand in RAM or ROM at P, the step is `exec` of that instruction with
P moved past its bytes, modulo 65,536, on the machine with the turn taken, the dividers having run on through it (log
32; 10_state.md R13, R14, 30_encoding.md R75). -/
def Obligations.StepRunsDecoded : Prop :=
  ∀ (s : State) (bs : List Byte) (i : Instr), s.cpuTurn → s.wa = false → s.pendingInterrupt = none → s.halted = false →
    s.bytesAt s.p bs → decode bs = .ok (i, []) →
    step s = exec i { s.popMove with p := s.p + BitVec.ofNat 16 bs.length }

/-- Every step of every agent keeps memory in its canonical form, the model's own representation (log 1). -/
def Obligations.MemoryStaysCanonical : Prop :=
  ∀ s t : State, s.Inv → step s = .next t → t.Inv

/-- The machine after reset has the invariant: its memory, which lists nothing (log 1), is in canonical form. -/
def Obligations.ResetHasInvariant : Prop := State.reset.Inv

/-- A ROM cell, one that no address of the map writes, keeps its byte in every step of every agent (20_memory.md
R48): the map's answer depends on PV, PU and BF, so the cell is one that is written under none of their values. -/
def Obligations.RomNeverChanges : Prop :=
  ∀ (s t : State) (k : Nat),
    (∀ (pv pu bf : Bool) (sp : Space) (a : Addr),
      ({ s with pv := pv, pu := pu, bf := bf } : State).ramCell sp a ≠ some k) →
    step s = .next t → t.mem.read k = s.mem.read k ∧ t.board = s.board

/-- A request flip-flop that is set stays set through every step, whatever IE is and whatever instruction runs, but
for the entry of its own interrupt and reset (60_exceptions.md R304, the spec's decision D7). -/
def Obligations.RequestsAreKept : Prop :=
  ∀ s t : State, step s = .next t → ¬ s.nextMove .reset →
    (s.ir0 = true → ¬ (s.cpuTurn ∧ s.pendingInterrupt = some .nmi) → t.ir0 = true) ∧
    (s.ir1 = true → ¬ (s.cpuTurn ∧ s.pendingInterrupt = some .timer) → t.ir1 = true) ∧
    (s.ir2 = true → ¬ (s.cpuTurn ∧ s.pendingInterrupt = some .maskable) → t.ir2 = true)

/-! ### What no instruction changes -/

/-- Memory frame: where an instruction completes, every cell but those of the addresses it stores to reads as before.
The stored addresses are the operand's address, computed as the meaning computes it, and S and S - 1 for the bytes
pushed. -/
def Obligations.MemoryFrame : Prop :=
  ∀ (i : Instr) (s t : State) (k : Nat), exec i s = .next t →
    (∀ w ∈ storedAddresses i s, s.ramCell w.1 w.2 ≠ some k) → t.mem.read k = s.mem.read k

/-- Register frame: where an instruction completes, every general register but those it writes (its destination, the
pairs it steps, UL for LOP), S unless it pushes, pops, loads S, calls or returns, and P unless it jumps, is unchanged
(10_state.md R12, R13, R15). -/
def Obligations.RegisterFrame : Prop :=
  ∀ (i : Instr) (s t : State), exec i s = .next t →
    (∀ r : Reg8, r ∉ regsWritten i → t.reg r = s.reg r) ∧
    (movesS i = false → t.sp = s.sp) ∧ (movesP i = false → t.p = s.p)

/-- Flag frame: where an instruction completes, every flag but those its rule names is unchanged (10_state.md R16 to
R20, 60_exceptions.md R303). -/
def Obligations.FlagFrame : Prop :=
  ∀ (i : Instr) (s t : State) (f : Flag), exec i s = .next t → f ∉ flagsWritten i → t.flag f = s.flag f

/-- Frame of the rest of the state: TM changes by AM0 and AM1 alone, the divider by CDV (that it runs on
between instructions, not within one, is log 32), PU, PV, DISP and BF by their own instructions, the halt by HLT; no
instruction changes IR0, WA, the input pins, the board, the script or the timer's turn (the model's own, log 9, log 34),
IR1 but AM1, and none clears IR1 or IR2 (10_state.md R22 to R29).
Where the map names no port controller and the board wires ATP to none, no instruction changes a controller or IR2;
where it names no device either, the list `out` changes by ATP and OFF alone. That list is the model's own (log 16);
the bus and timing pins a board also sees are not in it (log 26), so the clause says nothing of them. -/
def Obligations.ControlFrame : Prop :=
  ∀ (i : Instr) (s t : State), exec i s = .next t →
    (i ≠ .am0 → i ≠ .am1 → t.tm = s.tm) ∧ (i ≠ .cdv → t.divider = s.divider) ∧
    (i ≠ .spu → i ≠ .rpu → t.pu = s.pu) ∧ (i ≠ .spv → i ≠ .rpv → t.pv = s.pv) ∧
    (i ≠ .sdp → i ≠ .rdp → t.disp = s.disp) ∧ (i ≠ .off → t.bf = s.bf) ∧ (i ≠ .hlt → t.halted = s.halted) ∧
    t.ir0 = s.ir0 ∧ t.wa = s.wa ∧ t.inPins = s.inPins ∧ t.board = s.board ∧ t.script = s.script ∧ t.untilTimer = s.untilTimer ∧
    (i ≠ .am1 → t.ir1 = s.ir1) ∧ (s.ir1 = true → t.ir1 = true) ∧ (s.ir2 = true → t.ir2 = true) ∧
    ((∀ r ∈ s.board.map, ∀ u, r.kind ≠ .ioc u) → s.board.phiLatch = [] →
      t.iocs = s.iocs ∧ t.ir2 = s.ir2 ∧
      ((∀ r ∈ s.board.map, r.kind ≠ .device) → i ≠ .atp → i ≠ .off → t.out = s.out))

/-! ### Reset and interrupts -/

/-- Reset (10_state.md R31): on a running machine a reset clears IE, the three requests, PU, PV and the halt, loads P
from FFFEH and FFFFH of ME0, high byte first, and changes nothing else; State.reset has those values, P read from its
memory. That the halt ends is the spec's own inference (R31), that a pulse is one move the model's (log 28). -/
def Obligations.ResetSequence : Prop :=
  (∀ s : State, s.nextMove .reset →
    let s1 : State := { s.popMove with ie := false, ir0 := false, ir1 := false, ir2 := false, pu := false, pv := false }
    let hi := s1.busRead .me0 0xFFFE#16
    let lo := hi.2.busRead .me0 0xFFFF#16
    step s = .next { lo.2 with p := ofBytes hi.1 lo.1, halted := false }) ∧
  State.reset.ie = false ∧ State.reset.ir0 = false ∧ State.reset.ir1 = false ∧ State.reset.ir2 = false ∧
  State.reset.pu = false ∧ State.reset.pv = false ∧ State.reset.halted = false ∧
  State.reset.p = ofBytes (State.reset.busRead .me0 0xFFFE#16).1 (State.reset.busRead .me0 0xFFFF#16).1

/-- The interrupt check (60_exceptions.md R313): a non-maskable request is taken whatever IE is; else with IE set a
timer or a maskable request alone is taken, and of two requests one of them, in an order that is left open; else
none. The order is the spec's open parameter D4 (log 7). -/
def Obligations.InterruptCheck : Prop :=
  ∀ s : State,
    (s.ir0 = true → s.pendingInterrupt = some .nmi) ∧
    (s.ir0 = false → s.ie = true → s.ir1 = true → s.ir2 = false → s.pendingInterrupt = some .timer) ∧
    (s.ir0 = false → s.ie = true → s.ir1 = false → s.ir2 = true → s.pendingInterrupt = some .maskable) ∧
    (s.ir0 = false → s.ie = true → s.ir1 = true → s.ir2 = true →
      s.pendingInterrupt = some .timer ∨ s.pendingInterrupt = some .maskable) ∧
    (s.ir0 = false → s.ie = false → s.pendingInterrupt = none) ∧
    (s.ir0 = false → s.ir1 = false → s.ir2 = false → s.pendingInterrupt = none)

/-- Interrupt entry: on the CPU's turn with its clock running, halted or not, the step takes the interrupt the check
gives by the sequence of its rule and executes no instruction (60_exceptions.md R310, R311, R312; the order of the
three pushes is decision D34, where requests are examined decision D14, log 28). -/
def Obligations.InterruptEntry : Prop :=
  ∀ (s : State) (n : Interrupt), s.cpuTurn → s.wa = false → s.pendingInterrupt = some n →
    step s = .next (interruptEntered n s.popMove)

/-- RTI undoes an interrupt entry: whatever the handler did in between, if S is where the entry left it and the three
stacked bytes, in three cells of RAM, still read as the entry left them, RTI restores P, S and the five flags the
entry found (48_return.md R241, 60_exceptions.md R314). -/
def Obligations.RtiUndoesInterrupt : Prop :=
  ∀ (s u : State) (n : Interrupt) (j0 j1 j2 : Nat), s.Inv →
    s.ramCell .me0 s.sp = some j0 → s.ramCell .me0 (s.sp - 1) = some j1 → s.ramCell .me0 (s.sp - 2) = some j2 →
    j0 ≠ j1 → j0 ≠ j2 → j1 ≠ j2 →
    u.sp = (s.takeInterrupt n).sp →
    u.readCell .me0 s.sp = some j0 → u.readCell .me0 (s.sp - 1) = some j1 → u.readCell .me0 (s.sp - 2) = some j2 →
    (∀ j ∈ [j0, j1, j2], u.mem.read j = (s.takeInterrupt n).mem.read j) →
    exec .rti u = .next { u with p := s.p, sp := s.sp, c := s.c, ie := s.ie, z := s.z, v := s.v, h := s.h }

/-- RTN undoes a call: whatever the subroutine did in between, if S is where SJP, VEJ, VMJ or a conditional vector
call that was made left it and the two stacked bytes, in two cells of RAM, still read as the call left them, RTN
restores P, the address after the call, and S (48_return.md R240, 47_subroutine.md R220 to R229). -/
def Obligations.RtnUndoesCall : Prop :=
  ∀ (call : Instr) (s t u : State) (j0 j1 : Nat), s.Inv →
    ((∃ i j, call = .sjp i j) ∨ (∃ i, call = .vmj i) ∨ (∃ f ∈ vejForms, f.instr = call) ∨
      ∃ i, ∃ f ∈ vectorIfForms i, f.instr = call ∧ s.flag f.what.1 = f.what.2) → exec call s = .next t →
    s.ramCell .me0 s.sp = some j0 → s.ramCell .me0 (s.sp - 1) = some j1 → j0 ≠ j1 →
    u.sp = t.sp → u.readCell .me0 s.sp = some j0 → u.readCell .me0 (s.sp - 1) = some j1 →
    u.mem.read j0 = t.mem.read j0 → u.mem.read j1 = t.mem.read j1 →
    exec .rtn u = .next { u with p := s.p, sp := s.sp }

/-- A halted CPU fetches and executes nothing: on its turn with no interrupt to take, the step changes at most the
halt itself, beside the turn taken and the dividers, which run on (log 32), and leaves the halt too while no request
is set (45_cpu_control.md R186; that a request not taken may
release the halt is the open parameter of log 8). -/
def Obligations.HaltedCpuWaits : Prop :=
  ∀ s : State, s.cpuTurn → s.wa = false → s.pendingInterrupt = none → s.halted = true →
    ∃ h : Bool, step s = .next { s.popMove with halted := h } ∧
      (Config.hltWakeIgnoresIE = false → h = true) ∧
      (s.ir0 = false → s.ir1 = false → s.ir2 = false → h = true)

/-! ### The timer, the pins and the I/O port controller -/

/-- One timer step: TM moves right one place with bit 0 XOR bit 4 coming in at bit 8; IR1 is set when the new value
is 1FFH, whatever IE is; 000H stays (60_exceptions.md R320; the spec derives the formula from the manual's table, and
the step at which IR1 is set is its decision D32). -/
def Obligations.TimerStep : Prop :=
  ∀ s : State, s.nextMove .timer → ∃ tm : TimerWord,
    step s = .next { s.popMove with tm := tm, ir1 := s.ir1 || decide (tm = 0x1FF#9) } ∧
    tm.toNat = s.tm.toNat / 2 + 256 * ((s.tm.toNat + s.tm.toNat / 16) % 2) ∧
    (s.tm = 0#9 → tm = 0#9)

/-- The timer keeps stepping: from every state, within as many steps as the script has moves and CPU steps are left,
either its next step is due or the machine stops; so a machine that never stops steps it again and again
(60_exceptions.md R320, 00_scope.md R8: fairness, the spec's decision D10; script and count are the model's own, log
9 and log 34). It has period 511: from every value but 000H the steps visit every other such value and come back
after 511 steps, not before; 000H never reaches 1FFH (R320). -/
def Obligations.TimerPeriod : Prop :=
  (∀ s : State, ∃ (n : Nat) (t : State), n ≤ s.script.length + s.untilTimer ∧ stepsTo n s t ∧
    (t.nextMove .timer ∨ ∀ u, step t ≠ .next u)) ∧
  (∀ tm : TimerWord, tm ≠ 0#9 → timerAfter 511 tm = tm ∧ (∀ n, 0 < n → n < 511 → timerAfter n tm ≠ tm) ∧
    ∀ goal : TimerWord, goal ≠ 0#9 → ∃ n, n < 511 ∧ timerAfter n tm = goal) ∧
  ∀ n, timerAfter n 0#9 = 0#9

/-- The host's pins: NMI and MI set their requests, BFI sets BF and takes BFO low, IN and WAIT take their levels, each
changing nothing else; with WA set the CPU's turn only lets the dividers run; a script that names a second bus master is refused
(60_exceptions.md R305, 10_state.md R25, R28, R30, R32). The dividers keep running (10_state.md R29, R341 of
60_exceptions.md): from every state, within as many steps as the script has moves, a turn of the CPU or the timer is due
or the machine stops, and through such a turn, halted, waiting or not, every divider runs on; a move of its own
counts it once more. Taking a turn changes nothing but whose turn comes next, the dividers and the count of free
values, and no divider in another turn. The model's choices among these: the levels of IN0 to IN7 kept in State (log 4),
the stall between instructions (log 14), the event in `out` (log 16), a divider as a number that grows, through the
turns of the CPU and the timer alone, and that the controllers' dividers run likewise (log 32), script and turns (log
9, log 34); the refusal is log 15. -/
def Obligations.HostMoves : Prop :=
  ∀ s : State,
    (s.nextMove .nmi → step s = .next { s.popMove with ir0 := true }) ∧
    (s.nextMove .mi → step s = .next { s.popMove with ir2 := true }) ∧
    (s.nextMove .bfi → step s = .next { s.popMove with bf := true, out := .bfo false :: s.out }) ∧
    (∀ v, s.nextMove (.inPins v) → step s = .next { s.popMove with inPins := v }) ∧
    (∀ level, s.nextMove (.wait level) → step s = .next { s.popMove with wa := level }) ∧
    (s.nextMove .divider → step s = .next { s.popMove with divider := s.divider + 1 }) ∧
    (s.cpuTurn → s.wa = true → step s = .next s.popMove) ∧
    (∃ (n : Nat) (t : State), n ≤ s.script.length ∧ stepsTo n s t ∧
      (t.cpuTurn ∨ t.nextMove .timer ∨ ∀ u, step t ≠ .next u)) ∧
    (s.cpuTurn ∨ s.nextMove .timer →
      s.divider < s.popMove.divider ∧ ∀ u, (s.ioc u).divider < (s.popMove.ioc u).divider) ∧
    (¬ s.cpuTurn → ¬ s.nextMove .timer → s.popMove.divider = s.divider ∧ s.popMove.iocs = s.iocs) ∧
    (∃ (script : List Move) (n d k : Nat) (c : Iocs),
      s.popMove = { s with script := script, untilTimer := n, draws := d, divider := k, iocs := c } ∧
      ∀ u, ∃ j, c.get u = { s.ioc u with divider := j }) ∧
    (s.nextMove .busMaster → step s = .refused .externalBusMaster)

/-- A controller's registers by offset (60_exceptions.md R332 to R336, R338), each access changing nothing it does
not name. Writes: OPC, G, DDA, DDB, OPA, OPB and F take the byte, MSK its low four bits, IF0 and IF1 bits 0 and 1
while RD and TD stay, +4 clears the divider, +6 gives the serial transmit register its byte and clears TD, and the
offsets R332 lists nothing for ignore the write. Reads: OPC, G, DDA, DDB give the register, F its bits 6 to 0, MSK
and IF their low four bits, +5 gives U and clears RD, a port gives OP where the direction bit is 1 and the pin where
it is 0 and loads that byte into OP, and an unlisted offset gives any byte; which bits are left free is log 19. The
divider as a number is log 32. Its RESET clears every register, makes the ports inputs and INT low, and touches
neither its divider nor its pins nor anything of the CPU (R339). -/
def Obligations.ControllerRegisters : Prop :=
  (∀ (d : Ioc) (v : Byte),
    d.write 4#4 v = { d with divider := 0 } ∧ d.write 6#4 v = { d with tx := v, td := false } ∧
    d.write 7#4 v = { d with f := v } ∧ d.write 8#4 v = { d with opc := v } ∧ d.write 9#4 v = { d with g := v } ∧
    d.write 10#4 v = { d with msk := BitVec.ofNat 4 v.toNat } ∧
    d.write 11#4 v = { d with if0 := v.getLsbD 0, if1 := v.getLsbD 1 } ∧
    d.write 12#4 v = { d with dda := v } ∧ d.write 13#4 v = { d with ddb := v } ∧
    d.write 14#4 v = { d with opa := v } ∧ d.write 15#4 v = { d with opb := v } ∧
    (∀ n : BitVec 4, n.toNat ≤ 3 ∨ n.toNat = 5 → d.write n v = d)) ∧
  (∀ (d : Ioc) (free : Byte),
    d.read 5#4 free = (d.u, { d with rd := false }) ∧
    ((d.read 7#4 free).1.toNat % 128 = d.f.toNat % 128 ∧ (d.read 7#4 free).2 = d) ∧
    d.read 8#4 free = (d.opc, d) ∧ d.read 9#4 free = (d.g, d) ∧
    ((d.read 10#4 free).1.toNat % 16 = d.msk.toNat ∧ (d.read 10#4 free).2 = d) ∧
    ((d.read 11#4 free).1.toNat % 16 = d.if0.toNat + 2 * d.if1.toNat + 4 * d.rd.toNat + 8 * d.td.toNat ∧
      (d.read 11#4 free).2 = d) ∧
    d.read 12#4 free = (d.dda, d) ∧ d.read 13#4 free = (d.ddb, d) ∧
    (∃ b : Byte, d.read 14#4 free = (b, { d with opa := b }) ∧
      ∀ n < 8, b.getLsbD n = if d.dda.getLsbD n then d.opa.getLsbD n else d.pa.getLsbD n) ∧
    (∃ b : Byte, d.read 15#4 free = (b, { d with opb := b }) ∧
      ∀ n < 8, b.getLsbD n = if d.ddb.getLsbD n then d.opb.getLsbD n else d.pb.getLsbD n) ∧
    (∀ n : BitVec 4, n.toNat ≤ 4 ∨ n.toNat = 6 → d.read n free = (free, d))) ∧
  ∀ (s : State) (u : IocUnit), s.nextMove (.ioc u .reset) → ∃ d : Ioc,
    step s = .next { s.popMove with iocs := s.iocs.put u d } ∧
    d = { Ioc.cleared with
      divider := (s.ioc u).divider, pa := (s.ioc u).pa, pb := (s.ioc u).pb, irq := (s.ioc u).irq } ∧
    d.int = false

/-- The controllers' requests (60_exceptions.md R336, R331, R305): INT is high when a flag and its mask bit are (the
spec's own inference in R336), and the line to MI when INT of a controller wired there is: R331 wires the built-in one,
and that several wired make their OR is the model's choice (DESIGN CHOICE, log 17). Every bus cycle of the CPU
and every event at a controller's pins sets IR2 exactly on a rise of that line, and ATP leaves IR2 as it is, since it
changes no flag and no mask bit. A rising IRQ sets IF0, a byte received sets RD and is in U if the byte before it had
been read (else U is left open, log 35), the end of a transmission sets TD, a rising PB7 in the input mode sets IF1
(outside it log 18), the pins take the levels driven, a count of the controller's divider counts
it (log 32); nothing of the CPU but IR2 changes, nor memory, MSK or another controller. -/
def Obligations.ControllerRequests : Prop :=
  (∀ d : Ioc, d.int = true ↔ (d.if0 = true ∧ d.msk.getLsbD 0 = true) ∨ (d.if1 = true ∧ d.msk.getLsbD 1 = true) ∨
    (d.rd = true ∧ d.msk.getLsbD 2 = true) ∨ (d.td = true ∧ d.msk.getLsbD 3 = true)) ∧
  (∀ s : State, s.miLine = true ↔ ∃ u ∈ s.board.intToMi, (s.ioc u).int = true) ∧
  (∀ (s : State) (sp : Space) (a : Addr) (v : Byte),
    (s.busRead sp a).2.ir2 = (s.ir2 || (!s.miLine && (s.busRead sp a).2.miLine)) ∧
    (s.busWrite sp a v).ir2 = (s.ir2 || (!s.miLine && (s.busWrite sp a v).miLine))) ∧
  (∀ s : State, ∃ t, exec .atp s = .next t ∧ t.ir2 = s.ir2 ∧ t.miLine = s.miLine) ∧
  ∀ (s : State) (u : IocUnit) (m : IocMove), s.nextMove (.ioc u m) → m ≠ .reset → ∃ t, step s = .next t ∧
    t.ir2 = (s.ir2 || (!s.miLine && t.miLine)) ∧ t.mem = s.mem ∧ t.p = s.p ∧ (t.ioc u).msk = (s.ioc u).msk ∧
    t = { s.popMove with iocs := t.iocs, ir2 := t.ir2, draws := t.draws } ∧
    (∀ w, w ≠ u → t.ioc w = s.ioc w) ∧
    (∀ v, m = .received v → (t.ioc u).rd = true ∧ ((s.ioc u).rd = false → (t.ioc u).u = v)) ∧
    (m = .sent → (t.ioc u).td = true) ∧ (m = .divider → (t.ioc u).divider = (s.ioc u).divider + 1) ∧
    (∀ pa pb irq, m = .pins pa pb irq →
      (t.ioc u).pa = pa ∧ (t.ioc u).pb = pb ∧ (t.ioc u).irq = irq ∧
      ((s.ioc u).irq = false → irq = true → (t.ioc u).if0 = true) ∧
      ((s.ioc u).ddb.getLsbD 7 = false → (s.ioc u).pb.getLsbD 7 = false → pb.getLsbD 7 = true →
        (t.ioc u).if1 = true))

/-- The PC-1500 and the PC-1500A with whatever is fitted to them (20_memory.md R55 to R58; that this is the whole map is
log 29, and log 33 names what the model settles: the areas marked only Do not use and INHIBITED, ME1 while BF is
reset, and that which module sits in a bank of the option area is a parameter of the map). With BF set: the
standard and the option RAM, the module's memory, the system ROM. In the option area PV chooses between two banks of
8000H to BFFFH, and with PV set PU between two sub-banks of 8000H to 9FFFH; at A000H to BFFFH with PV reset stands
the CE-150's ROM, whose byte at A000H is C0H, or FFH where there is no CE-150. With BF reset no address of ME0
answers. In ME1 each controller present answers at its addresses, and nothing else. -/
def Obligations.Pc1500MemoryMap : Prop :=
  ∀ (s : State) (a : Addr) (f : Fitted),
    let n := a.toNat
    let units : List (IocUnit × Nat × Nat) :=
      [(.builtIn, 0xF000, 0xF00F), (.ce150, 0xB000, 0xB00F), (.ce153, 0x8000, 0x800F), (.ce158, 0xD000, 0xD00E)]
    let option : RegionKind := if (n - 0x4000) / 0x800 ∈ f.optionRam then .ram 0 else .absent
    let shared : Prop :=
      (s.bf = true →
        (n ≤ 0x3FFF → s.resolve .me0 a = f.userModule) ∧
        (0x8000 ≤ n → n ≤ 0x9FFF →
          s.resolve .me0 a = if s.pv then (if s.pu then f.lowPuSet else f.lowPuReset) else f.lowPvReset) ∧
        (0xC000 ≤ n → s.resolve .me0 a = .rom 0) ∧
        (0xA000 ≤ n → n ≤ 0xBFFF →
          (s.pv = true → s.resolve .me0 a = f.highPvSet) ∧
          (s.pv = false → .ce150 ∈ f.units →
            if n = 0xA000 then (s.busRead .me0 a).1 = 0xC0#8 ∧ ∀ v, s.busWrite .me0 a v = s
            else s.resolve .me0 a = .rom 2) ∧
          (s.pv = false → .ce150 ∉ f.units →
            (s.busRead .me0 a).1 = 0xFF#8 ∧ ∀ v, s.busWrite .me0 a v = s))) ∧
      (s.bf = false → s.resolve .me0 a = .absent) ∧
      (∀ u ∈ units, u.1 = .builtIn ∨ u.1 ∈ f.units → u.2.1 ≤ n → n ≤ u.2.2 → s.resolve .me1 a = .ioc u.1) ∧
      ((∀ u ∈ units, u.1 = .builtIn ∨ u.1 ∈ f.units → ¬ (u.2.1 ≤ n ∧ n ≤ u.2.2)) → s.resolve .me1 a = .absent)
    (s.board.map = pc1500Map f → shared ∧ (s.bf = true →
      (0x4000 ≤ n ∧ n ≤ 0x47FF ∨ 0x7600 ≤ n ∧ n ≤ 0x7BFF → s.resolve .me0 a = .ram 0) ∧
      (0x4800 ≤ n → n ≤ 0x67FF → s.resolve .me0 a = option) ∧
      (0x6800 ≤ n ∧ n ≤ 0x75FF ∨ 0x7C00 ≤ n ∧ n ≤ 0x7FFF → s.resolve .me0 a = .absent))) ∧
    (s.board.map = pc1500aMap f → shared ∧ (s.bf = true →
      (0x4000 ≤ n ∧ n ≤ 0x57FF ∨ 0x7600 ≤ n ∧ n ≤ 0x7FFF → s.resolve .me0 a = .ram 0) ∧
      (0x5800 ≤ n → n ≤ 0x6FFF → s.resolve .me0 a = option) ∧
      (0x7000 ≤ n ∧ n ≤ 0x75FF → s.resolve .me0 a = .absent)))
end

