-- ==== Sys2Proof/Laws/State.lean ====
section
/-! SUPPORT. The small lemmas of the state updates: one per field per update, so that no later proof unfolds one. First
the fields an update leaves alone, then what it writes. -/

namespace Sys2Proof.Machine

variable (s : State)

/-! ### Flags and T -/

@[simp] theorem setFlags_a (r : AddResult) : (s.setFlags r).a = s.a := rfl
@[simp] theorem setFlags_xl (r : AddResult) : (s.setFlags r).xl = s.xl := rfl
@[simp] theorem setFlags_xh (r : AddResult) : (s.setFlags r).xh = s.xh := rfl
@[simp] theorem setFlags_yl (r : AddResult) : (s.setFlags r).yl = s.yl := rfl
@[simp] theorem setFlags_yh (r : AddResult) : (s.setFlags r).yh = s.yh := rfl
@[simp] theorem setFlags_ul (r : AddResult) : (s.setFlags r).ul = s.ul := rfl
@[simp] theorem setFlags_uh (r : AddResult) : (s.setFlags r).uh = s.uh := rfl
@[simp] theorem setFlags_p (r : AddResult) : (s.setFlags r).p = s.p := rfl
@[simp] theorem setFlags_sp (r : AddResult) : (s.setFlags r).sp = s.sp := rfl
@[simp] theorem setFlags_ie (r : AddResult) : (s.setFlags r).ie = s.ie := rfl
@[simp] theorem setFlags_tm (r : AddResult) : (s.setFlags r).tm = s.tm := rfl
@[simp] theorem setFlags_divider (r : AddResult) : (s.setFlags r).divider = s.divider := rfl
@[simp] theorem setFlags_wa (r : AddResult) : (s.setFlags r).wa = s.wa := rfl
@[simp] theorem setFlags_pu (r : AddResult) : (s.setFlags r).pu = s.pu := rfl
@[simp] theorem setFlags_pv (r : AddResult) : (s.setFlags r).pv = s.pv := rfl
@[simp] theorem setFlags_disp (r : AddResult) : (s.setFlags r).disp = s.disp := rfl
@[simp] theorem setFlags_bf (r : AddResult) : (s.setFlags r).bf = s.bf := rfl
@[simp] theorem setFlags_ir0 (r : AddResult) : (s.setFlags r).ir0 = s.ir0 := rfl
@[simp] theorem setFlags_ir1 (r : AddResult) : (s.setFlags r).ir1 = s.ir1 := rfl
@[simp] theorem setFlags_ir2 (r : AddResult) : (s.setFlags r).ir2 = s.ir2 := rfl
@[simp] theorem setFlags_halted (r : AddResult) : (s.setFlags r).halted = s.halted := rfl
@[simp] theorem setFlags_inPins (r : AddResult) : (s.setFlags r).inPins = s.inPins := rfl
@[simp] theorem setFlags_mem (r : AddResult) : (s.setFlags r).mem = s.mem := rfl
@[simp] theorem setFlags_board (r : AddResult) : (s.setFlags r).board = s.board := rfl
@[simp] theorem setFlags_iocs (r : AddResult) : (s.setFlags r).iocs = s.iocs := rfl
@[simp] theorem setFlags_out (r : AddResult) : (s.setFlags r).out = s.out := rfl
@[simp] theorem setFlags_script (r : AddResult) : (s.setFlags r).script = s.script := rfl
@[simp] theorem setFlags_untilTimer (r : AddResult) : (s.setFlags r).untilTimer = s.untilTimer := rfl
@[simp] theorem setFlags_draws (r : AddResult) : (s.setFlags r).draws = s.draws := rfl
@[simp] theorem setFlags_c (r : AddResult) : (s.setFlags r).c = r.c := rfl
@[simp] theorem setFlags_h (r : AddResult) : (s.setFlags r).h = r.h := rfl
@[simp] theorem setFlags_v (r : AddResult) : (s.setFlags r).v = r.v := rfl
@[simp] theorem setFlags_z (r : AddResult) : (s.setFlags r).z = r.z := rfl

@[simp] theorem setZ_a (r : Byte) : (s.setZ r).a = s.a := rfl
@[simp] theorem setZ_xl (r : Byte) : (s.setZ r).xl = s.xl := rfl
@[simp] theorem setZ_xh (r : Byte) : (s.setZ r).xh = s.xh := rfl
@[simp] theorem setZ_yl (r : Byte) : (s.setZ r).yl = s.yl := rfl
@[simp] theorem setZ_yh (r : Byte) : (s.setZ r).yh = s.yh := rfl
@[simp] theorem setZ_ul (r : Byte) : (s.setZ r).ul = s.ul := rfl
@[simp] theorem setZ_uh (r : Byte) : (s.setZ r).uh = s.uh := rfl
@[simp] theorem setZ_p (r : Byte) : (s.setZ r).p = s.p := rfl
@[simp] theorem setZ_sp (r : Byte) : (s.setZ r).sp = s.sp := rfl
@[simp] theorem setZ_c (r : Byte) : (s.setZ r).c = s.c := rfl
@[simp] theorem setZ_ie (r : Byte) : (s.setZ r).ie = s.ie := rfl
@[simp] theorem setZ_v (r : Byte) : (s.setZ r).v = s.v := rfl
@[simp] theorem setZ_h (r : Byte) : (s.setZ r).h = s.h := rfl
@[simp] theorem setZ_tm (r : Byte) : (s.setZ r).tm = s.tm := rfl
@[simp] theorem setZ_divider (r : Byte) : (s.setZ r).divider = s.divider := rfl
@[simp] theorem setZ_wa (r : Byte) : (s.setZ r).wa = s.wa := rfl
@[simp] theorem setZ_pu (r : Byte) : (s.setZ r).pu = s.pu := rfl
@[simp] theorem setZ_pv (r : Byte) : (s.setZ r).pv = s.pv := rfl
@[simp] theorem setZ_disp (r : Byte) : (s.setZ r).disp = s.disp := rfl
@[simp] theorem setZ_bf (r : Byte) : (s.setZ r).bf = s.bf := rfl
@[simp] theorem setZ_ir0 (r : Byte) : (s.setZ r).ir0 = s.ir0 := rfl
@[simp] theorem setZ_ir1 (r : Byte) : (s.setZ r).ir1 = s.ir1 := rfl
@[simp] theorem setZ_ir2 (r : Byte) : (s.setZ r).ir2 = s.ir2 := rfl
@[simp] theorem setZ_halted (r : Byte) : (s.setZ r).halted = s.halted := rfl
@[simp] theorem setZ_inPins (r : Byte) : (s.setZ r).inPins = s.inPins := rfl
@[simp] theorem setZ_mem (r : Byte) : (s.setZ r).mem = s.mem := rfl
@[simp] theorem setZ_board (r : Byte) : (s.setZ r).board = s.board := rfl
@[simp] theorem setZ_iocs (r : Byte) : (s.setZ r).iocs = s.iocs := rfl
@[simp] theorem setZ_out (r : Byte) : (s.setZ r).out = s.out := rfl
@[simp] theorem setZ_script (r : Byte) : (s.setZ r).script = s.script := rfl
@[simp] theorem setZ_untilTimer (r : Byte) : (s.setZ r).untilTimer = s.untilTimer := rfl
@[simp] theorem setZ_draws (r : Byte) : (s.setZ r).draws = s.draws := rfl
@[simp] theorem setZ_z (r : Byte) : (s.setZ r).z = isZero r := rfl

@[simp] theorem setT_a (b : Byte) : (s.setT b).a = s.a := rfl
@[simp] theorem setT_xl (b : Byte) : (s.setT b).xl = s.xl := rfl
@[simp] theorem setT_xh (b : Byte) : (s.setT b).xh = s.xh := rfl
@[simp] theorem setT_yl (b : Byte) : (s.setT b).yl = s.yl := rfl
@[simp] theorem setT_yh (b : Byte) : (s.setT b).yh = s.yh := rfl
@[simp] theorem setT_ul (b : Byte) : (s.setT b).ul = s.ul := rfl
@[simp] theorem setT_uh (b : Byte) : (s.setT b).uh = s.uh := rfl
@[simp] theorem setT_p (b : Byte) : (s.setT b).p = s.p := rfl
@[simp] theorem setT_sp (b : Byte) : (s.setT b).sp = s.sp := rfl
@[simp] theorem setT_tm (b : Byte) : (s.setT b).tm = s.tm := rfl
@[simp] theorem setT_divider (b : Byte) : (s.setT b).divider = s.divider := rfl
@[simp] theorem setT_wa (b : Byte) : (s.setT b).wa = s.wa := rfl
@[simp] theorem setT_pu (b : Byte) : (s.setT b).pu = s.pu := rfl
@[simp] theorem setT_pv (b : Byte) : (s.setT b).pv = s.pv := rfl
@[simp] theorem setT_disp (b : Byte) : (s.setT b).disp = s.disp := rfl
@[simp] theorem setT_bf (b : Byte) : (s.setT b).bf = s.bf := rfl
@[simp] theorem setT_ir0 (b : Byte) : (s.setT b).ir0 = s.ir0 := rfl
@[simp] theorem setT_ir1 (b : Byte) : (s.setT b).ir1 = s.ir1 := rfl
@[simp] theorem setT_ir2 (b : Byte) : (s.setT b).ir2 = s.ir2 := rfl
@[simp] theorem setT_halted (b : Byte) : (s.setT b).halted = s.halted := rfl
@[simp] theorem setT_inPins (b : Byte) : (s.setT b).inPins = s.inPins := rfl
@[simp] theorem setT_mem (b : Byte) : (s.setT b).mem = s.mem := rfl
@[simp] theorem setT_board (b : Byte) : (s.setT b).board = s.board := rfl
@[simp] theorem setT_iocs (b : Byte) : (s.setT b).iocs = s.iocs := rfl
@[simp] theorem setT_out (b : Byte) : (s.setT b).out = s.out := rfl
@[simp] theorem setT_script (b : Byte) : (s.setT b).script = s.script := rfl
@[simp] theorem setT_untilTimer (b : Byte) : (s.setT b).untilTimer = s.untilTimer := rfl
@[simp] theorem setT_draws (b : Byte) : (s.setT b).draws = s.draws := rfl
@[simp] theorem setT_c (b : Byte) : (s.setT b).c = b.getLsbD 0 := rfl
@[simp] theorem setT_ie (b : Byte) : (s.setT b).ie = b.getLsbD 1 := rfl
@[simp] theorem setT_z (b : Byte) : (s.setT b).z = b.getLsbD 2 := rfl
@[simp] theorem setT_v (b : Byte) : (s.setT b).v = b.getLsbD 3 := rfl
@[simp] theorem setT_h (b : Byte) : (s.setT b).h = b.getLsbD 4 := rfl

@[simp] theorem setShiftFlags_a (b : Bool) : (s.setShiftFlags b).a = s.a := rfl
@[simp] theorem setShiftFlags_xl (b : Bool) : (s.setShiftFlags b).xl = s.xl := rfl
@[simp] theorem setShiftFlags_xh (b : Bool) : (s.setShiftFlags b).xh = s.xh := rfl
@[simp] theorem setShiftFlags_yl (b : Bool) : (s.setShiftFlags b).yl = s.yl := rfl
@[simp] theorem setShiftFlags_yh (b : Bool) : (s.setShiftFlags b).yh = s.yh := rfl
@[simp] theorem setShiftFlags_ul (b : Bool) : (s.setShiftFlags b).ul = s.ul := rfl
@[simp] theorem setShiftFlags_uh (b : Bool) : (s.setShiftFlags b).uh = s.uh := rfl
@[simp] theorem setShiftFlags_p (b : Bool) : (s.setShiftFlags b).p = s.p := rfl
@[simp] theorem setShiftFlags_sp (b : Bool) : (s.setShiftFlags b).sp = s.sp := rfl
@[simp] theorem setShiftFlags_ie (b : Bool) : (s.setShiftFlags b).ie = s.ie := rfl
@[simp] theorem setShiftFlags_tm (b : Bool) : (s.setShiftFlags b).tm = s.tm := rfl
@[simp] theorem setShiftFlags_divider (b : Bool) : (s.setShiftFlags b).divider = s.divider := rfl
@[simp] theorem setShiftFlags_wa (b : Bool) : (s.setShiftFlags b).wa = s.wa := rfl
@[simp] theorem setShiftFlags_pu (b : Bool) : (s.setShiftFlags b).pu = s.pu := rfl
@[simp] theorem setShiftFlags_pv (b : Bool) : (s.setShiftFlags b).pv = s.pv := rfl
@[simp] theorem setShiftFlags_disp (b : Bool) : (s.setShiftFlags b).disp = s.disp := rfl
@[simp] theorem setShiftFlags_bf (b : Bool) : (s.setShiftFlags b).bf = s.bf := rfl
@[simp] theorem setShiftFlags_ir0 (b : Bool) : (s.setShiftFlags b).ir0 = s.ir0 := rfl
@[simp] theorem setShiftFlags_ir1 (b : Bool) : (s.setShiftFlags b).ir1 = s.ir1 := rfl
@[simp] theorem setShiftFlags_ir2 (b : Bool) : (s.setShiftFlags b).ir2 = s.ir2 := rfl
@[simp] theorem setShiftFlags_halted (b : Bool) : (s.setShiftFlags b).halted = s.halted := rfl
@[simp] theorem setShiftFlags_inPins (b : Bool) : (s.setShiftFlags b).inPins = s.inPins := rfl
@[simp] theorem setShiftFlags_mem (b : Bool) : (s.setShiftFlags b).mem = s.mem := rfl
@[simp] theorem setShiftFlags_board (b : Bool) : (s.setShiftFlags b).board = s.board := rfl
@[simp] theorem setShiftFlags_iocs (b : Bool) : (s.setShiftFlags b).iocs = s.iocs := rfl
@[simp] theorem setShiftFlags_out (b : Bool) : (s.setShiftFlags b).out = s.out := rfl
@[simp] theorem setShiftFlags_script (b : Bool) : (s.setShiftFlags b).script = s.script := rfl
@[simp] theorem setShiftFlags_untilTimer (b : Bool) : (s.setShiftFlags b).untilTimer = s.untilTimer := rfl
@[simp] theorem setShiftFlags_c (b : Bool) : (s.setShiftFlags b).c = b := rfl

/-! ### Registers -/

@[simp] theorem setReg_p (r : Reg8) (b : Byte) : (s.setReg r b).p = s.p := by cases r <;> rfl
@[simp] theorem setReg_sp (r : Reg8) (b : Byte) : (s.setReg r b).sp = s.sp := by cases r <;> rfl
@[simp] theorem setReg_c (r : Reg8) (b : Byte) : (s.setReg r b).c = s.c := by cases r <;> rfl
@[simp] theorem setReg_ie (r : Reg8) (b : Byte) : (s.setReg r b).ie = s.ie := by cases r <;> rfl
@[simp] theorem setReg_z (r : Reg8) (b : Byte) : (s.setReg r b).z = s.z := by cases r <;> rfl
@[simp] theorem setReg_v (r : Reg8) (b : Byte) : (s.setReg r b).v = s.v := by cases r <;> rfl
@[simp] theorem setReg_h (r : Reg8) (b : Byte) : (s.setReg r b).h = s.h := by cases r <;> rfl
@[simp] theorem setReg_tm (r : Reg8) (b : Byte) : (s.setReg r b).tm = s.tm := by cases r <;> rfl
@[simp] theorem setReg_divider (r : Reg8) (b : Byte) : (s.setReg r b).divider = s.divider := by cases r <;> rfl
@[simp] theorem setReg_wa (r : Reg8) (b : Byte) : (s.setReg r b).wa = s.wa := by cases r <;> rfl
@[simp] theorem setReg_pu (r : Reg8) (b : Byte) : (s.setReg r b).pu = s.pu := by cases r <;> rfl
@[simp] theorem setReg_pv (r : Reg8) (b : Byte) : (s.setReg r b).pv = s.pv := by cases r <;> rfl
@[simp] theorem setReg_disp (r : Reg8) (b : Byte) : (s.setReg r b).disp = s.disp := by cases r <;> rfl
@[simp] theorem setReg_bf (r : Reg8) (b : Byte) : (s.setReg r b).bf = s.bf := by cases r <;> rfl
@[simp] theorem setReg_ir0 (r : Reg8) (b : Byte) : (s.setReg r b).ir0 = s.ir0 := by cases r <;> rfl
@[simp] theorem setReg_ir1 (r : Reg8) (b : Byte) : (s.setReg r b).ir1 = s.ir1 := by cases r <;> rfl
@[simp] theorem setReg_ir2 (r : Reg8) (b : Byte) : (s.setReg r b).ir2 = s.ir2 := by cases r <;> rfl
@[simp] theorem setReg_halted (r : Reg8) (b : Byte) : (s.setReg r b).halted = s.halted := by cases r <;> rfl
@[simp] theorem setReg_inPins (r : Reg8) (b : Byte) : (s.setReg r b).inPins = s.inPins := by cases r <;> rfl
@[simp] theorem setReg_mem (r : Reg8) (b : Byte) : (s.setReg r b).mem = s.mem := by cases r <;> rfl
@[simp] theorem setReg_board (r : Reg8) (b : Byte) : (s.setReg r b).board = s.board := by cases r <;> rfl
@[simp] theorem setReg_iocs (r : Reg8) (b : Byte) : (s.setReg r b).iocs = s.iocs := by cases r <;> rfl
@[simp] theorem setReg_out (r : Reg8) (b : Byte) : (s.setReg r b).out = s.out := by cases r <;> rfl
@[simp] theorem setReg_script (r : Reg8) (b : Byte) : (s.setReg r b).script = s.script := by cases r <;> rfl
@[simp] theorem setReg_untilTimer (r : Reg8) (b : Byte) : (s.setReg r b).untilTimer = s.untilTimer := by cases r <;> rfl
@[simp] theorem setReg_draws (r : Reg8) (b : Byte) : (s.setReg r b).draws = s.draws := by cases r <;> rfl
@[simp] theorem setReg_same (r : Reg8) (b : Byte) : (s.setReg r b).reg r = b := by cases r <;> rfl
theorem setReg_other {r q : Reg8} (b : Byte) (h : q ≠ r) : (s.setReg r b).reg q = s.reg q := by
  cases r <;> cases q <;> first | rfl | exact absurd rfl h

@[simp] theorem setPair_a (r : Pair) (w : Addr) : (s.setPair r w).a = s.a := by cases r <;> rfl
@[simp] theorem setPair_p (r : Pair) (w : Addr) : (s.setPair r w).p = s.p := by cases r <;> rfl
@[simp] theorem setPair_sp (r : Pair) (w : Addr) : (s.setPair r w).sp = s.sp := by cases r <;> rfl
@[simp] theorem setPair_c (r : Pair) (w : Addr) : (s.setPair r w).c = s.c := by cases r <;> rfl
@[simp] theorem setPair_ie (r : Pair) (w : Addr) : (s.setPair r w).ie = s.ie := by cases r <;> rfl
@[simp] theorem setPair_z (r : Pair) (w : Addr) : (s.setPair r w).z = s.z := by cases r <;> rfl
@[simp] theorem setPair_v (r : Pair) (w : Addr) : (s.setPair r w).v = s.v := by cases r <;> rfl
@[simp] theorem setPair_h (r : Pair) (w : Addr) : (s.setPair r w).h = s.h := by cases r <;> rfl
@[simp] theorem setPair_tm (r : Pair) (w : Addr) : (s.setPair r w).tm = s.tm := by cases r <;> rfl
@[simp] theorem setPair_divider (r : Pair) (w : Addr) : (s.setPair r w).divider = s.divider := by cases r <;> rfl
@[simp] theorem setPair_wa (r : Pair) (w : Addr) : (s.setPair r w).wa = s.wa := by cases r <;> rfl
@[simp] theorem setPair_pu (r : Pair) (w : Addr) : (s.setPair r w).pu = s.pu := by cases r <;> rfl
@[simp] theorem setPair_pv (r : Pair) (w : Addr) : (s.setPair r w).pv = s.pv := by cases r <;> rfl
@[simp] theorem setPair_disp (r : Pair) (w : Addr) : (s.setPair r w).disp = s.disp := by cases r <;> rfl
@[simp] theorem setPair_bf (r : Pair) (w : Addr) : (s.setPair r w).bf = s.bf := by cases r <;> rfl
@[simp] theorem setPair_ir0 (r : Pair) (w : Addr) : (s.setPair r w).ir0 = s.ir0 := by cases r <;> rfl
@[simp] theorem setPair_ir1 (r : Pair) (w : Addr) : (s.setPair r w).ir1 = s.ir1 := by cases r <;> rfl
@[simp] theorem setPair_ir2 (r : Pair) (w : Addr) : (s.setPair r w).ir2 = s.ir2 := by cases r <;> rfl
@[simp] theorem setPair_halted (r : Pair) (w : Addr) : (s.setPair r w).halted = s.halted := by cases r <;> rfl
@[simp] theorem setPair_inPins (r : Pair) (w : Addr) : (s.setPair r w).inPins = s.inPins := by cases r <;> rfl
@[simp] theorem setPair_mem (r : Pair) (w : Addr) : (s.setPair r w).mem = s.mem := by cases r <;> rfl
@[simp] theorem setPair_board (r : Pair) (w : Addr) : (s.setPair r w).board = s.board := by cases r <;> rfl
@[simp] theorem setPair_iocs (r : Pair) (w : Addr) : (s.setPair r w).iocs = s.iocs := by cases r <;> rfl
@[simp] theorem setPair_out (r : Pair) (w : Addr) : (s.setPair r w).out = s.out := by cases r <;> rfl
@[simp] theorem setPair_script (r : Pair) (w : Addr) : (s.setPair r w).script = s.script := by cases r <;> rfl
@[simp] theorem setPair_untilTimer (r : Pair) (w : Addr) : (s.setPair r w).untilTimer = s.untilTimer := by cases r <;> rfl
@[simp] theorem setPair_draws (r : Pair) (w : Addr) : (s.setPair r w).draws = s.draws := by cases r <;> rfl

/-! ### The controllers -/

@[simp] theorem setIoc_a (u : IocUnit) (d : Ioc) : (s.setIoc u d).a = s.a := rfl
@[simp] theorem setIoc_xl (u : IocUnit) (d : Ioc) : (s.setIoc u d).xl = s.xl := rfl
@[simp] theorem setIoc_xh (u : IocUnit) (d : Ioc) : (s.setIoc u d).xh = s.xh := rfl
@[simp] theorem setIoc_yl (u : IocUnit) (d : Ioc) : (s.setIoc u d).yl = s.yl := rfl
@[simp] theorem setIoc_yh (u : IocUnit) (d : Ioc) : (s.setIoc u d).yh = s.yh := rfl
@[simp] theorem setIoc_ul (u : IocUnit) (d : Ioc) : (s.setIoc u d).ul = s.ul := rfl
@[simp] theorem setIoc_uh (u : IocUnit) (d : Ioc) : (s.setIoc u d).uh = s.uh := rfl
@[simp] theorem setIoc_p (u : IocUnit) (d : Ioc) : (s.setIoc u d).p = s.p := rfl
@[simp] theorem setIoc_sp (u : IocUnit) (d : Ioc) : (s.setIoc u d).sp = s.sp := rfl
@[simp] theorem setIoc_c (u : IocUnit) (d : Ioc) : (s.setIoc u d).c = s.c := rfl
@[simp] theorem setIoc_ie (u : IocUnit) (d : Ioc) : (s.setIoc u d).ie = s.ie := rfl
@[simp] theorem setIoc_z (u : IocUnit) (d : Ioc) : (s.setIoc u d).z = s.z := rfl
@[simp] theorem setIoc_v (u : IocUnit) (d : Ioc) : (s.setIoc u d).v = s.v := rfl
@[simp] theorem setIoc_h (u : IocUnit) (d : Ioc) : (s.setIoc u d).h = s.h := rfl
@[simp] theorem setIoc_tm (u : IocUnit) (d : Ioc) : (s.setIoc u d).tm = s.tm := rfl
@[simp] theorem setIoc_divider (u : IocUnit) (d : Ioc) : (s.setIoc u d).divider = s.divider := rfl
@[simp] theorem setIoc_wa (u : IocUnit) (d : Ioc) : (s.setIoc u d).wa = s.wa := rfl
@[simp] theorem setIoc_pu (u : IocUnit) (d : Ioc) : (s.setIoc u d).pu = s.pu := rfl
@[simp] theorem setIoc_pv (u : IocUnit) (d : Ioc) : (s.setIoc u d).pv = s.pv := rfl
@[simp] theorem setIoc_disp (u : IocUnit) (d : Ioc) : (s.setIoc u d).disp = s.disp := rfl
@[simp] theorem setIoc_bf (u : IocUnit) (d : Ioc) : (s.setIoc u d).bf = s.bf := rfl
@[simp] theorem setIoc_ir0 (u : IocUnit) (d : Ioc) : (s.setIoc u d).ir0 = s.ir0 := rfl
@[simp] theorem setIoc_ir1 (u : IocUnit) (d : Ioc) : (s.setIoc u d).ir1 = s.ir1 := rfl
@[simp] theorem setIoc_halted (u : IocUnit) (d : Ioc) : (s.setIoc u d).halted = s.halted := rfl
@[simp] theorem setIoc_inPins (u : IocUnit) (d : Ioc) : (s.setIoc u d).inPins = s.inPins := rfl
@[simp] theorem setIoc_mem (u : IocUnit) (d : Ioc) : (s.setIoc u d).mem = s.mem := rfl
@[simp] theorem setIoc_board (u : IocUnit) (d : Ioc) : (s.setIoc u d).board = s.board := rfl
@[simp] theorem setIoc_out (u : IocUnit) (d : Ioc) : (s.setIoc u d).out = s.out := rfl
@[simp] theorem setIoc_script (u : IocUnit) (d : Ioc) : (s.setIoc u d).script = s.script := rfl
@[simp] theorem setIoc_untilTimer (u : IocUnit) (d : Ioc) : (s.setIoc u d).untilTimer = s.untilTimer := rfl

@[simp] theorem ioc_setIoc (u w : IocUnit) (d : Ioc) : (s.setIoc u d).ioc w =
    if w = u then (s.ioc u).pb7Edge d (Config.freeBit s.draws) else s.ioc w := by
  cases u <;> cases w <;> rfl

/-- A change of a controller sets IR2 exactly on a rise of the line to MI. -/
theorem setIoc_ir2 (u : IocUnit) (d : Ioc) : (s.setIoc u d).ir2 = (s.ir2 || (!s.miLine && (s.setIoc u d).miLine)) := rfl

/-- What latching changes: controllers, IR2 and the count of draws. -/
theorem latchPorts_parts (us : List IocUnit) : ∃ c r n, s.latchPorts us = { s with iocs := c, ir2 := r, draws := n } := by
  induction us generalizing s with
  | nil => exact ⟨_, _, _, rfl⟩
  | cons u us ih =>
    obtain ⟨c, r, n, h⟩ := ih (s.setIoc u { s.ioc u with opc := s.a })
    exact ⟨c, r, n, h⟩

@[simp] theorem latchPorts_a (us : List IocUnit) : (s.latchPorts us).a = s.a := by
  obtain ⟨_, _, _, h⟩ := latchPorts_parts s us; rw [h]
@[simp] theorem latchPorts_xl (us : List IocUnit) : (s.latchPorts us).xl = s.xl := by
  obtain ⟨_, _, _, h⟩ := latchPorts_parts s us; rw [h]
@[simp] theorem latchPorts_xh (us : List IocUnit) : (s.latchPorts us).xh = s.xh := by
  obtain ⟨_, _, _, h⟩ := latchPorts_parts s us; rw [h]
@[simp] theorem latchPorts_yl (us : List IocUnit) : (s.latchPorts us).yl = s.yl := by
  obtain ⟨_, _, _, h⟩ := latchPorts_parts s us; rw [h]
@[simp] theorem latchPorts_yh (us : List IocUnit) : (s.latchPorts us).yh = s.yh := by
  obtain ⟨_, _, _, h⟩ := latchPorts_parts s us; rw [h]
@[simp] theorem latchPorts_ul (us : List IocUnit) : (s.latchPorts us).ul = s.ul := by
  obtain ⟨_, _, _, h⟩ := latchPorts_parts s us; rw [h]
@[simp] theorem latchPorts_uh (us : List IocUnit) : (s.latchPorts us).uh = s.uh := by
  obtain ⟨_, _, _, h⟩ := latchPorts_parts s us; rw [h]
@[simp] theorem latchPorts_p (us : List IocUnit) : (s.latchPorts us).p = s.p := by
  obtain ⟨_, _, _, h⟩ := latchPorts_parts s us; rw [h]
@[simp] theorem latchPorts_sp (us : List IocUnit) : (s.latchPorts us).sp = s.sp := by
  obtain ⟨_, _, _, h⟩ := latchPorts_parts s us; rw [h]
@[simp] theorem latchPorts_c (us : List IocUnit) : (s.latchPorts us).c = s.c := by
  obtain ⟨_, _, _, h⟩ := latchPorts_parts s us; rw [h]
@[simp] theorem latchPorts_ie (us : List IocUnit) : (s.latchPorts us).ie = s.ie := by
  obtain ⟨_, _, _, h⟩ := latchPorts_parts s us; rw [h]
@[simp] theorem latchPorts_z (us : List IocUnit) : (s.latchPorts us).z = s.z := by
  obtain ⟨_, _, _, h⟩ := latchPorts_parts s us; rw [h]
@[simp] theorem latchPorts_v (us : List IocUnit) : (s.latchPorts us).v = s.v := by
  obtain ⟨_, _, _, h⟩ := latchPorts_parts s us; rw [h]
@[simp] theorem latchPorts_h (us : List IocUnit) : (s.latchPorts us).h = s.h := by
  obtain ⟨_, _, _, h⟩ := latchPorts_parts s us; rw [h]
@[simp] theorem latchPorts_tm (us : List IocUnit) : (s.latchPorts us).tm = s.tm := by
  obtain ⟨_, _, _, h⟩ := latchPorts_parts s us; rw [h]
@[simp] theorem latchPorts_divider (us : List IocUnit) : (s.latchPorts us).divider = s.divider := by
  obtain ⟨_, _, _, h⟩ := latchPorts_parts s us; rw [h]
@[simp] theorem latchPorts_wa (us : List IocUnit) : (s.latchPorts us).wa = s.wa := by
  obtain ⟨_, _, _, h⟩ := latchPorts_parts s us; rw [h]
@[simp] theorem latchPorts_pu (us : List IocUnit) : (s.latchPorts us).pu = s.pu := by
  obtain ⟨_, _, _, h⟩ := latchPorts_parts s us; rw [h]
@[simp] theorem latchPorts_pv (us : List IocUnit) : (s.latchPorts us).pv = s.pv := by
  obtain ⟨_, _, _, h⟩ := latchPorts_parts s us; rw [h]
@[simp] theorem latchPorts_disp (us : List IocUnit) : (s.latchPorts us).disp = s.disp := by
  obtain ⟨_, _, _, h⟩ := latchPorts_parts s us; rw [h]
@[simp] theorem latchPorts_bf (us : List IocUnit) : (s.latchPorts us).bf = s.bf := by
  obtain ⟨_, _, _, h⟩ := latchPorts_parts s us; rw [h]
@[simp] theorem latchPorts_ir0 (us : List IocUnit) : (s.latchPorts us).ir0 = s.ir0 := by
  obtain ⟨_, _, _, h⟩ := latchPorts_parts s us; rw [h]
@[simp] theorem latchPorts_ir1 (us : List IocUnit) : (s.latchPorts us).ir1 = s.ir1 := by
  obtain ⟨_, _, _, h⟩ := latchPorts_parts s us; rw [h]
@[simp] theorem latchPorts_halted (us : List IocUnit) : (s.latchPorts us).halted = s.halted := by
  obtain ⟨_, _, _, h⟩ := latchPorts_parts s us; rw [h]
@[simp] theorem latchPorts_inPins (us : List IocUnit) : (s.latchPorts us).inPins = s.inPins := by
  obtain ⟨_, _, _, h⟩ := latchPorts_parts s us; rw [h]
@[simp] theorem latchPorts_mem (us : List IocUnit) : (s.latchPorts us).mem = s.mem := by
  obtain ⟨_, _, _, h⟩ := latchPorts_parts s us; rw [h]
@[simp] theorem latchPorts_board (us : List IocUnit) : (s.latchPorts us).board = s.board := by
  obtain ⟨_, _, _, h⟩ := latchPorts_parts s us; rw [h]
@[simp] theorem latchPorts_out (us : List IocUnit) : (s.latchPorts us).out = s.out := by
  obtain ⟨_, _, _, h⟩ := latchPorts_parts s us; rw [h]
@[simp] theorem latchPorts_script (us : List IocUnit) : (s.latchPorts us).script = s.script := by
  obtain ⟨_, _, _, h⟩ := latchPorts_parts s us; rw [h]
@[simp] theorem latchPorts_untilTimer (us : List IocUnit) : (s.latchPorts us).untilTimer = s.untilTimer := by
  obtain ⟨_, _, _, h⟩ := latchPorts_parts s us; rw [h]

@[simp] theorem runDividers_a  : (s.runDividers).a = s.a := rfl
@[simp] theorem runDividers_xl  : (s.runDividers).xl = s.xl := rfl
@[simp] theorem runDividers_xh  : (s.runDividers).xh = s.xh := rfl
@[simp] theorem runDividers_yl  : (s.runDividers).yl = s.yl := rfl
@[simp] theorem runDividers_yh  : (s.runDividers).yh = s.yh := rfl
@[simp] theorem runDividers_ul  : (s.runDividers).ul = s.ul := rfl
@[simp] theorem runDividers_uh  : (s.runDividers).uh = s.uh := rfl
@[simp] theorem runDividers_p  : (s.runDividers).p = s.p := rfl
@[simp] theorem runDividers_sp  : (s.runDividers).sp = s.sp := rfl
@[simp] theorem runDividers_c  : (s.runDividers).c = s.c := rfl
@[simp] theorem runDividers_ie  : (s.runDividers).ie = s.ie := rfl
@[simp] theorem runDividers_z  : (s.runDividers).z = s.z := rfl
@[simp] theorem runDividers_v  : (s.runDividers).v = s.v := rfl
@[simp] theorem runDividers_h  : (s.runDividers).h = s.h := rfl
@[simp] theorem runDividers_tm  : (s.runDividers).tm = s.tm := rfl
@[simp] theorem runDividers_wa  : (s.runDividers).wa = s.wa := rfl
@[simp] theorem runDividers_pu  : (s.runDividers).pu = s.pu := rfl
@[simp] theorem runDividers_pv  : (s.runDividers).pv = s.pv := rfl
@[simp] theorem runDividers_disp  : (s.runDividers).disp = s.disp := rfl
@[simp] theorem runDividers_bf  : (s.runDividers).bf = s.bf := rfl
@[simp] theorem runDividers_ir0  : (s.runDividers).ir0 = s.ir0 := rfl
@[simp] theorem runDividers_ir1  : (s.runDividers).ir1 = s.ir1 := rfl
@[simp] theorem runDividers_ir2  : (s.runDividers).ir2 = s.ir2 := rfl
@[simp] theorem runDividers_halted  : (s.runDividers).halted = s.halted := rfl
@[simp] theorem runDividers_inPins  : (s.runDividers).inPins = s.inPins := rfl
@[simp] theorem runDividers_mem  : (s.runDividers).mem = s.mem := rfl
@[simp] theorem runDividers_board  : (s.runDividers).board = s.board := rfl
@[simp] theorem runDividers_out  : (s.runDividers).out = s.out := rfl
@[simp] theorem runDividers_script  : (s.runDividers).script = s.script := rfl
@[simp] theorem runDividers_untilTimer  : (s.runDividers).untilTimer = s.untilTimer := rfl

@[simp] theorem runDividers_divider : s.runDividers.divider = s.divider + Config.dividerCounts s.draws 0 + 1 := rfl
@[simp] theorem runDividers_draws : s.runDividers.draws = s.draws + 1 := rfl

/-- Of a controller only its divider runs on, by at least one count. -/
theorem runDividers_ioc (u : IocUnit) : ∃ free, s.runDividers.ioc u = (s.ioc u).runDivider free := by
  cases u <;> exact ⟨_, rfl⟩

@[simp] theorem runDividers_miLine : s.runDividers.miLine = s.miLine := by
  have h (u : IocUnit) : (s.runDividers.ioc u).int = (s.ioc u).int := by
    obtain ⟨_, e⟩ := runDividers_ioc s u; rw [e]; rfl
  simp only [State.miLine, runDividers_board, h]

/-- What passing the time of a turn can be: the dividers run on in a turn of the CPU or the timer, and nothing else
happens. -/
theorem passTime_cases (m : Move) :
    ((m = .cpu ∨ m = .timer) ∧ s.passTime m = s.runDividers) ∨ (m ≠ .cpu ∧ m ≠ .timer ∧ s.passTime m = s) := by
  cases m <;> simp [State.passTime]

@[simp] theorem passTime_a (m : Move) : (s.passTime m).a = s.a := by
  cases m <;> rfl
@[simp] theorem passTime_xl (m : Move) : (s.passTime m).xl = s.xl := by
  cases m <;> rfl
@[simp] theorem passTime_xh (m : Move) : (s.passTime m).xh = s.xh := by
  cases m <;> rfl
@[simp] theorem passTime_yl (m : Move) : (s.passTime m).yl = s.yl := by
  cases m <;> rfl
@[simp] theorem passTime_yh (m : Move) : (s.passTime m).yh = s.yh := by
  cases m <;> rfl
@[simp] theorem passTime_ul (m : Move) : (s.passTime m).ul = s.ul := by
  cases m <;> rfl
@[simp] theorem passTime_uh (m : Move) : (s.passTime m).uh = s.uh := by
  cases m <;> rfl
@[simp] theorem passTime_p (m : Move) : (s.passTime m).p = s.p := by
  cases m <;> rfl
@[simp] theorem passTime_sp (m : Move) : (s.passTime m).sp = s.sp := by
  cases m <;> rfl
@[simp] theorem passTime_c (m : Move) : (s.passTime m).c = s.c := by
  cases m <;> rfl
@[simp] theorem passTime_ie (m : Move) : (s.passTime m).ie = s.ie := by
  cases m <;> rfl
@[simp] theorem passTime_z (m : Move) : (s.passTime m).z = s.z := by
  cases m <;> rfl
@[simp] theorem passTime_v (m : Move) : (s.passTime m).v = s.v := by
  cases m <;> rfl
@[simp] theorem passTime_h (m : Move) : (s.passTime m).h = s.h := by
  cases m <;> rfl
@[simp] theorem passTime_tm (m : Move) : (s.passTime m).tm = s.tm := by
  cases m <;> rfl
@[simp] theorem passTime_wa (m : Move) : (s.passTime m).wa = s.wa := by
  cases m <;> rfl
@[simp] theorem passTime_pu (m : Move) : (s.passTime m).pu = s.pu := by
  cases m <;> rfl
@[simp] theorem passTime_pv (m : Move) : (s.passTime m).pv = s.pv := by
  cases m <;> rfl
@[simp] theorem passTime_disp (m : Move) : (s.passTime m).disp = s.disp := by
  cases m <;> rfl
@[simp] theorem passTime_bf (m : Move) : (s.passTime m).bf = s.bf := by
  cases m <;> rfl
@[simp] theorem passTime_ir0 (m : Move) : (s.passTime m).ir0 = s.ir0 := by
  cases m <;> rfl
@[simp] theorem passTime_ir1 (m : Move) : (s.passTime m).ir1 = s.ir1 := by
  cases m <;> rfl
@[simp] theorem passTime_ir2 (m : Move) : (s.passTime m).ir2 = s.ir2 := by
  cases m <;> rfl
@[simp] theorem passTime_halted (m : Move) : (s.passTime m).halted = s.halted := by
  cases m <;> rfl
@[simp] theorem passTime_inPins (m : Move) : (s.passTime m).inPins = s.inPins := by
  cases m <;> rfl
@[simp] theorem passTime_mem (m : Move) : (s.passTime m).mem = s.mem := by
  cases m <;> rfl
@[simp] theorem passTime_board (m : Move) : (s.passTime m).board = s.board := by
  cases m <;> rfl
@[simp] theorem passTime_out (m : Move) : (s.passTime m).out = s.out := by
  cases m <;> rfl
@[simp] theorem passTime_script (m : Move) : (s.passTime m).script = s.script := by
  cases m <;> rfl
@[simp] theorem passTime_untilTimer (m : Move) : (s.passTime m).untilTimer = s.untilTimer := by
  cases m <;> rfl
@[simp] theorem passTime_miLine (m : Move) : (s.passTime m).miLine = s.miLine := by
  cases m <;> simp [State.passTime]

@[simp] theorem clearRequest_a (n : Interrupt) : (s.clearRequest n).a = s.a := by cases n <;> rfl
@[simp] theorem clearRequest_xl (n : Interrupt) : (s.clearRequest n).xl = s.xl := by cases n <;> rfl
@[simp] theorem clearRequest_xh (n : Interrupt) : (s.clearRequest n).xh = s.xh := by cases n <;> rfl
@[simp] theorem clearRequest_yl (n : Interrupt) : (s.clearRequest n).yl = s.yl := by cases n <;> rfl
@[simp] theorem clearRequest_yh (n : Interrupt) : (s.clearRequest n).yh = s.yh := by cases n <;> rfl
@[simp] theorem clearRequest_ul (n : Interrupt) : (s.clearRequest n).ul = s.ul := by cases n <;> rfl
@[simp] theorem clearRequest_uh (n : Interrupt) : (s.clearRequest n).uh = s.uh := by cases n <;> rfl
@[simp] theorem clearRequest_p (n : Interrupt) : (s.clearRequest n).p = s.p := by cases n <;> rfl
@[simp] theorem clearRequest_sp (n : Interrupt) : (s.clearRequest n).sp = s.sp := by cases n <;> rfl
@[simp] theorem clearRequest_c (n : Interrupt) : (s.clearRequest n).c = s.c := by cases n <;> rfl
@[simp] theorem clearRequest_ie (n : Interrupt) : (s.clearRequest n).ie = s.ie := by cases n <;> rfl
@[simp] theorem clearRequest_z (n : Interrupt) : (s.clearRequest n).z = s.z := by cases n <;> rfl
@[simp] theorem clearRequest_v (n : Interrupt) : (s.clearRequest n).v = s.v := by cases n <;> rfl
@[simp] theorem clearRequest_h (n : Interrupt) : (s.clearRequest n).h = s.h := by cases n <;> rfl
@[simp] theorem clearRequest_tm (n : Interrupt) : (s.clearRequest n).tm = s.tm := by cases n <;> rfl
@[simp] theorem clearRequest_divider (n : Interrupt) : (s.clearRequest n).divider = s.divider := by cases n <;> rfl
@[simp] theorem clearRequest_wa (n : Interrupt) : (s.clearRequest n).wa = s.wa := by cases n <;> rfl
@[simp] theorem clearRequest_pu (n : Interrupt) : (s.clearRequest n).pu = s.pu := by cases n <;> rfl
@[simp] theorem clearRequest_pv (n : Interrupt) : (s.clearRequest n).pv = s.pv := by cases n <;> rfl
@[simp] theorem clearRequest_disp (n : Interrupt) : (s.clearRequest n).disp = s.disp := by cases n <;> rfl
@[simp] theorem clearRequest_bf (n : Interrupt) : (s.clearRequest n).bf = s.bf := by cases n <;> rfl
@[simp] theorem clearRequest_halted (n : Interrupt) : (s.clearRequest n).halted = s.halted := by cases n <;> rfl
@[simp] theorem clearRequest_inPins (n : Interrupt) : (s.clearRequest n).inPins = s.inPins := by cases n <;> rfl
@[simp] theorem clearRequest_mem (n : Interrupt) : (s.clearRequest n).mem = s.mem := by cases n <;> rfl
@[simp] theorem clearRequest_board (n : Interrupt) : (s.clearRequest n).board = s.board := by cases n <;> rfl
@[simp] theorem clearRequest_iocs (n : Interrupt) : (s.clearRequest n).iocs = s.iocs := by cases n <;> rfl
@[simp] theorem clearRequest_out (n : Interrupt) : (s.clearRequest n).out = s.out := by cases n <;> rfl
@[simp] theorem clearRequest_script (n : Interrupt) : (s.clearRequest n).script = s.script := by cases n <;> rfl
@[simp] theorem clearRequest_untilTimer (n : Interrupt) : (s.clearRequest n).untilTimer = s.untilTimer := by cases n <;> rfl
@[simp] theorem clearRequest_draws (n : Interrupt) : (s.clearRequest n).draws = s.draws := by cases n <;> rfl

/-! ### Bus cycles and the stack -/

@[simp] theorem busRead_a (sp : Space) (w : Addr) : ((s.busRead sp w).2).a = s.a := by
  unfold State.busRead; split <;> rfl
@[simp] theorem busRead_xl (sp : Space) (w : Addr) : ((s.busRead sp w).2).xl = s.xl := by
  unfold State.busRead; split <;> rfl
@[simp] theorem busRead_xh (sp : Space) (w : Addr) : ((s.busRead sp w).2).xh = s.xh := by
  unfold State.busRead; split <;> rfl
@[simp] theorem busRead_yl (sp : Space) (w : Addr) : ((s.busRead sp w).2).yl = s.yl := by
  unfold State.busRead; split <;> rfl
@[simp] theorem busRead_yh (sp : Space) (w : Addr) : ((s.busRead sp w).2).yh = s.yh := by
  unfold State.busRead; split <;> rfl
@[simp] theorem busRead_ul (sp : Space) (w : Addr) : ((s.busRead sp w).2).ul = s.ul := by
  unfold State.busRead; split <;> rfl
@[simp] theorem busRead_uh (sp : Space) (w : Addr) : ((s.busRead sp w).2).uh = s.uh := by
  unfold State.busRead; split <;> rfl
@[simp] theorem busRead_p (sp : Space) (w : Addr) : ((s.busRead sp w).2).p = s.p := by
  unfold State.busRead; split <;> rfl
@[simp] theorem busRead_sp (sp : Space) (w : Addr) : ((s.busRead sp w).2).sp = s.sp := by
  unfold State.busRead; split <;> rfl
@[simp] theorem busRead_c (sp : Space) (w : Addr) : ((s.busRead sp w).2).c = s.c := by
  unfold State.busRead; split <;> rfl
@[simp] theorem busRead_ie (sp : Space) (w : Addr) : ((s.busRead sp w).2).ie = s.ie := by
  unfold State.busRead; split <;> rfl
@[simp] theorem busRead_z (sp : Space) (w : Addr) : ((s.busRead sp w).2).z = s.z := by
  unfold State.busRead; split <;> rfl
@[simp] theorem busRead_v (sp : Space) (w : Addr) : ((s.busRead sp w).2).v = s.v := by
  unfold State.busRead; split <;> rfl
@[simp] theorem busRead_h (sp : Space) (w : Addr) : ((s.busRead sp w).2).h = s.h := by
  unfold State.busRead; split <;> rfl
@[simp] theorem busRead_tm (sp : Space) (w : Addr) : ((s.busRead sp w).2).tm = s.tm := by
  unfold State.busRead; split <;> rfl
@[simp] theorem busRead_divider (sp : Space) (w : Addr) : ((s.busRead sp w).2).divider = s.divider := by
  unfold State.busRead; split <;> rfl
@[simp] theorem busRead_wa (sp : Space) (w : Addr) : ((s.busRead sp w).2).wa = s.wa := by
  unfold State.busRead; split <;> rfl
@[simp] theorem busRead_pu (sp : Space) (w : Addr) : ((s.busRead sp w).2).pu = s.pu := by
  unfold State.busRead; split <;> rfl
@[simp] theorem busRead_pv (sp : Space) (w : Addr) : ((s.busRead sp w).2).pv = s.pv := by
  unfold State.busRead; split <;> rfl
@[simp] theorem busRead_disp (sp : Space) (w : Addr) : ((s.busRead sp w).2).disp = s.disp := by
  unfold State.busRead; split <;> rfl
@[simp] theorem busRead_bf (sp : Space) (w : Addr) : ((s.busRead sp w).2).bf = s.bf := by
  unfold State.busRead; split <;> rfl
@[simp] theorem busRead_ir0 (sp : Space) (w : Addr) : ((s.busRead sp w).2).ir0 = s.ir0 := by
  unfold State.busRead; split <;> rfl
@[simp] theorem busRead_ir1 (sp : Space) (w : Addr) : ((s.busRead sp w).2).ir1 = s.ir1 := by
  unfold State.busRead; split <;> rfl
@[simp] theorem busRead_halted (sp : Space) (w : Addr) : ((s.busRead sp w).2).halted = s.halted := by
  unfold State.busRead; split <;> rfl
@[simp] theorem busRead_inPins (sp : Space) (w : Addr) : ((s.busRead sp w).2).inPins = s.inPins := by
  unfold State.busRead; split <;> rfl
@[simp] theorem busRead_mem (sp : Space) (w : Addr) : ((s.busRead sp w).2).mem = s.mem := by
  unfold State.busRead; split <;> rfl
@[simp] theorem busRead_board (sp : Space) (w : Addr) : ((s.busRead sp w).2).board = s.board := by
  unfold State.busRead; split <;> rfl
@[simp] theorem busRead_script (sp : Space) (w : Addr) : ((s.busRead sp w).2).script = s.script := by
  unfold State.busRead; split <;> rfl
@[simp] theorem busRead_untilTimer (sp : Space) (w : Addr) : ((s.busRead sp w).2).untilTimer = s.untilTimer := by
  unfold State.busRead; split <;> rfl

theorem iocWrite_parts (u : IocUnit) (q : BitVec 4) (b : Byte) :
    s.iocWrite u q b = { s.setIoc u ((s.ioc u).write q b) with out := (s.iocWrite u q b).out } := by
  unfold State.iocWrite; split <;> rfl

@[simp] theorem busWrite_a (sp : Space) (w : Addr) (b : Byte) : (s.busWrite sp w b).a = s.a := by
  unfold State.busWrite; split <;> first | rfl | (rw [iocWrite_parts]; rfl)
@[simp] theorem busWrite_xl (sp : Space) (w : Addr) (b : Byte) : (s.busWrite sp w b).xl = s.xl := by
  unfold State.busWrite; split <;> first | rfl | (rw [iocWrite_parts]; rfl)
@[simp] theorem busWrite_xh (sp : Space) (w : Addr) (b : Byte) : (s.busWrite sp w b).xh = s.xh := by
  unfold State.busWrite; split <;> first | rfl | (rw [iocWrite_parts]; rfl)
@[simp] theorem busWrite_yl (sp : Space) (w : Addr) (b : Byte) : (s.busWrite sp w b).yl = s.yl := by
  unfold State.busWrite; split <;> first | rfl | (rw [iocWrite_parts]; rfl)
@[simp] theorem busWrite_yh (sp : Space) (w : Addr) (b : Byte) : (s.busWrite sp w b).yh = s.yh := by
  unfold State.busWrite; split <;> first | rfl | (rw [iocWrite_parts]; rfl)
@[simp] theorem busWrite_ul (sp : Space) (w : Addr) (b : Byte) : (s.busWrite sp w b).ul = s.ul := by
  unfold State.busWrite; split <;> first | rfl | (rw [iocWrite_parts]; rfl)
@[simp] theorem busWrite_uh (sp : Space) (w : Addr) (b : Byte) : (s.busWrite sp w b).uh = s.uh := by
  unfold State.busWrite; split <;> first | rfl | (rw [iocWrite_parts]; rfl)
@[simp] theorem busWrite_p (sp : Space) (w : Addr) (b : Byte) : (s.busWrite sp w b).p = s.p := by
  unfold State.busWrite; split <;> first | rfl | (rw [iocWrite_parts]; rfl)
@[simp] theorem busWrite_sp (sp : Space) (w : Addr) (b : Byte) : (s.busWrite sp w b).sp = s.sp := by
  unfold State.busWrite; split <;> first | rfl | (rw [iocWrite_parts]; rfl)
@[simp] theorem busWrite_c (sp : Space) (w : Addr) (b : Byte) : (s.busWrite sp w b).c = s.c := by
  unfold State.busWrite; split <;> first | rfl | (rw [iocWrite_parts]; rfl)
@[simp] theorem busWrite_ie (sp : Space) (w : Addr) (b : Byte) : (s.busWrite sp w b).ie = s.ie := by
  unfold State.busWrite; split <;> first | rfl | (rw [iocWrite_parts]; rfl)
@[simp] theorem busWrite_z (sp : Space) (w : Addr) (b : Byte) : (s.busWrite sp w b).z = s.z := by
  unfold State.busWrite; split <;> first | rfl | (rw [iocWrite_parts]; rfl)
@[simp] theorem busWrite_v (sp : Space) (w : Addr) (b : Byte) : (s.busWrite sp w b).v = s.v := by
  unfold State.busWrite; split <;> first | rfl | (rw [iocWrite_parts]; rfl)
@[simp] theorem busWrite_h (sp : Space) (w : Addr) (b : Byte) : (s.busWrite sp w b).h = s.h := by
  unfold State.busWrite; split <;> first | rfl | (rw [iocWrite_parts]; rfl)
@[simp] theorem busWrite_tm (sp : Space) (w : Addr) (b : Byte) : (s.busWrite sp w b).tm = s.tm := by
  unfold State.busWrite; split <;> first | rfl | (rw [iocWrite_parts]; rfl)
@[simp] theorem busWrite_divider (sp : Space) (w : Addr) (b : Byte) : (s.busWrite sp w b).divider = s.divider := by
  unfold State.busWrite; split <;> first | rfl | (rw [iocWrite_parts]; rfl)
@[simp] theorem busWrite_wa (sp : Space) (w : Addr) (b : Byte) : (s.busWrite sp w b).wa = s.wa := by
  unfold State.busWrite; split <;> first | rfl | (rw [iocWrite_parts]; rfl)
@[simp] theorem busWrite_pu (sp : Space) (w : Addr) (b : Byte) : (s.busWrite sp w b).pu = s.pu := by
  unfold State.busWrite; split <;> first | rfl | (rw [iocWrite_parts]; rfl)
@[simp] theorem busWrite_pv (sp : Space) (w : Addr) (b : Byte) : (s.busWrite sp w b).pv = s.pv := by
  unfold State.busWrite; split <;> first | rfl | (rw [iocWrite_parts]; rfl)
@[simp] theorem busWrite_disp (sp : Space) (w : Addr) (b : Byte) : (s.busWrite sp w b).disp = s.disp := by
  unfold State.busWrite; split <;> first | rfl | (rw [iocWrite_parts]; rfl)
@[simp] theorem busWrite_bf (sp : Space) (w : Addr) (b : Byte) : (s.busWrite sp w b).bf = s.bf := by
  unfold State.busWrite; split <;> first | rfl | (rw [iocWrite_parts]; rfl)
@[simp] theorem busWrite_ir0 (sp : Space) (w : Addr) (b : Byte) : (s.busWrite sp w b).ir0 = s.ir0 := by
  unfold State.busWrite; split <;> first | rfl | (rw [iocWrite_parts]; rfl)
@[simp] theorem busWrite_ir1 (sp : Space) (w : Addr) (b : Byte) : (s.busWrite sp w b).ir1 = s.ir1 := by
  unfold State.busWrite; split <;> first | rfl | (rw [iocWrite_parts]; rfl)
@[simp] theorem busWrite_halted (sp : Space) (w : Addr) (b : Byte) : (s.busWrite sp w b).halted = s.halted := by
  unfold State.busWrite; split <;> first | rfl | (rw [iocWrite_parts]; rfl)
@[simp] theorem busWrite_inPins (sp : Space) (w : Addr) (b : Byte) : (s.busWrite sp w b).inPins = s.inPins := by
  unfold State.busWrite; split <;> first | rfl | (rw [iocWrite_parts]; rfl)
@[simp] theorem busWrite_board (sp : Space) (w : Addr) (b : Byte) : (s.busWrite sp w b).board = s.board := by
  unfold State.busWrite; split <;> first | rfl | (rw [iocWrite_parts]; rfl)
@[simp] theorem busWrite_script (sp : Space) (w : Addr) (b : Byte) : (s.busWrite sp w b).script = s.script := by
  unfold State.busWrite; split <;> first | rfl | (rw [iocWrite_parts]; rfl)
@[simp] theorem busWrite_untilTimer (sp : Space) (w : Addr) (b : Byte) : (s.busWrite sp w b).untilTimer = s.untilTimer := by
  unfold State.busWrite; split <;> first | rfl | (rw [iocWrite_parts]; rfl)

@[simp] theorem readOperand_a (o : Operand) : ((s.readOperand o).2).a = s.a := by
  cases o <;> simp [State.readOperand]
@[simp] theorem readOperand_xl (o : Operand) : ((s.readOperand o).2).xl = s.xl := by
  cases o <;> simp [State.readOperand]
@[simp] theorem readOperand_xh (o : Operand) : ((s.readOperand o).2).xh = s.xh := by
  cases o <;> simp [State.readOperand]
@[simp] theorem readOperand_yl (o : Operand) : ((s.readOperand o).2).yl = s.yl := by
  cases o <;> simp [State.readOperand]
@[simp] theorem readOperand_yh (o : Operand) : ((s.readOperand o).2).yh = s.yh := by
  cases o <;> simp [State.readOperand]
@[simp] theorem readOperand_ul (o : Operand) : ((s.readOperand o).2).ul = s.ul := by
  cases o <;> simp [State.readOperand]
@[simp] theorem readOperand_uh (o : Operand) : ((s.readOperand o).2).uh = s.uh := by
  cases o <;> simp [State.readOperand]
@[simp] theorem readOperand_p (o : Operand) : ((s.readOperand o).2).p = s.p := by
  cases o <;> simp [State.readOperand]
@[simp] theorem readOperand_sp (o : Operand) : ((s.readOperand o).2).sp = s.sp := by
  cases o <;> simp [State.readOperand]
@[simp] theorem readOperand_c (o : Operand) : ((s.readOperand o).2).c = s.c := by
  cases o <;> simp [State.readOperand]
@[simp] theorem readOperand_ie (o : Operand) : ((s.readOperand o).2).ie = s.ie := by
  cases o <;> simp [State.readOperand]
@[simp] theorem readOperand_z (o : Operand) : ((s.readOperand o).2).z = s.z := by
  cases o <;> simp [State.readOperand]
@[simp] theorem readOperand_v (o : Operand) : ((s.readOperand o).2).v = s.v := by
  cases o <;> simp [State.readOperand]
@[simp] theorem readOperand_h (o : Operand) : ((s.readOperand o).2).h = s.h := by
  cases o <;> simp [State.readOperand]
@[simp] theorem readOperand_tm (o : Operand) : ((s.readOperand o).2).tm = s.tm := by
  cases o <;> simp [State.readOperand]
@[simp] theorem readOperand_divider (o : Operand) : ((s.readOperand o).2).divider = s.divider := by
  cases o <;> simp [State.readOperand]
@[simp] theorem readOperand_wa (o : Operand) : ((s.readOperand o).2).wa = s.wa := by
  cases o <;> simp [State.readOperand]
@[simp] theorem readOperand_pu (o : Operand) : ((s.readOperand o).2).pu = s.pu := by
  cases o <;> simp [State.readOperand]
@[simp] theorem readOperand_pv (o : Operand) : ((s.readOperand o).2).pv = s.pv := by
  cases o <;> simp [State.readOperand]
@[simp] theorem readOperand_disp (o : Operand) : ((s.readOperand o).2).disp = s.disp := by
  cases o <;> simp [State.readOperand]
@[simp] theorem readOperand_bf (o : Operand) : ((s.readOperand o).2).bf = s.bf := by
  cases o <;> simp [State.readOperand]
@[simp] theorem readOperand_ir0 (o : Operand) : ((s.readOperand o).2).ir0 = s.ir0 := by
  cases o <;> simp [State.readOperand]
@[simp] theorem readOperand_ir1 (o : Operand) : ((s.readOperand o).2).ir1 = s.ir1 := by
  cases o <;> simp [State.readOperand]
@[simp] theorem readOperand_halted (o : Operand) : ((s.readOperand o).2).halted = s.halted := by
  cases o <;> simp [State.readOperand]
@[simp] theorem readOperand_inPins (o : Operand) : ((s.readOperand o).2).inPins = s.inPins := by
  cases o <;> simp [State.readOperand]
@[simp] theorem readOperand_mem (o : Operand) : ((s.readOperand o).2).mem = s.mem := by
  cases o <;> simp [State.readOperand]
@[simp] theorem readOperand_board (o : Operand) : ((s.readOperand o).2).board = s.board := by
  cases o <;> simp [State.readOperand]
@[simp] theorem readOperand_script (o : Operand) : ((s.readOperand o).2).script = s.script := by
  cases o <;> simp [State.readOperand]
@[simp] theorem readOperand_untilTimer (o : Operand) : ((s.readOperand o).2).untilTimer = s.untilTimer := by
  cases o <;> simp [State.readOperand]

@[simp] theorem push_a (b : Byte) : (s.push b).a = s.a := by
  simp [State.push]
@[simp] theorem push_xl (b : Byte) : (s.push b).xl = s.xl := by
  simp [State.push]
@[simp] theorem push_xh (b : Byte) : (s.push b).xh = s.xh := by
  simp [State.push]
@[simp] theorem push_yl (b : Byte) : (s.push b).yl = s.yl := by
  simp [State.push]
@[simp] theorem push_yh (b : Byte) : (s.push b).yh = s.yh := by
  simp [State.push]
@[simp] theorem push_ul (b : Byte) : (s.push b).ul = s.ul := by
  simp [State.push]
@[simp] theorem push_uh (b : Byte) : (s.push b).uh = s.uh := by
  simp [State.push]
@[simp] theorem push_p (b : Byte) : (s.push b).p = s.p := by
  simp [State.push]
@[simp] theorem push_c (b : Byte) : (s.push b).c = s.c := by
  simp [State.push]
@[simp] theorem push_ie (b : Byte) : (s.push b).ie = s.ie := by
  simp [State.push]
@[simp] theorem push_z (b : Byte) : (s.push b).z = s.z := by
  simp [State.push]
@[simp] theorem push_v (b : Byte) : (s.push b).v = s.v := by
  simp [State.push]
@[simp] theorem push_h (b : Byte) : (s.push b).h = s.h := by
  simp [State.push]
@[simp] theorem push_tm (b : Byte) : (s.push b).tm = s.tm := by
  simp [State.push]
@[simp] theorem push_divider (b : Byte) : (s.push b).divider = s.divider := by
  simp [State.push]
@[simp] theorem push_wa (b : Byte) : (s.push b).wa = s.wa := by
  simp [State.push]
@[simp] theorem push_pu (b : Byte) : (s.push b).pu = s.pu := by
  simp [State.push]
@[simp] theorem push_pv (b : Byte) : (s.push b).pv = s.pv := by
  simp [State.push]
@[simp] theorem push_disp (b : Byte) : (s.push b).disp = s.disp := by
  simp [State.push]
@[simp] theorem push_bf (b : Byte) : (s.push b).bf = s.bf := by
  simp [State.push]
@[simp] theorem push_ir0 (b : Byte) : (s.push b).ir0 = s.ir0 := by
  simp [State.push]
@[simp] theorem push_ir1 (b : Byte) : (s.push b).ir1 = s.ir1 := by
  simp [State.push]
@[simp] theorem push_halted (b : Byte) : (s.push b).halted = s.halted := by
  simp [State.push]
@[simp] theorem push_inPins (b : Byte) : (s.push b).inPins = s.inPins := by
  simp [State.push]
@[simp] theorem push_board (b : Byte) : (s.push b).board = s.board := by
  simp [State.push]
@[simp] theorem push_script (b : Byte) : (s.push b).script = s.script := by
  simp [State.push]
@[simp] theorem push_untilTimer (b : Byte) : (s.push b).untilTimer = s.untilTimer := by
  simp [State.push]
@[simp] theorem push_sp (b : Byte) : (s.push b).sp = s.sp - 1 := by simp [State.push]

@[simp] theorem pop_a  : (s.pop.2).a = s.a := by
  simp [State.pop]
@[simp] theorem pop_xl  : (s.pop.2).xl = s.xl := by
  simp [State.pop]
@[simp] theorem pop_xh  : (s.pop.2).xh = s.xh := by
  simp [State.pop]
@[simp] theorem pop_yl  : (s.pop.2).yl = s.yl := by
  simp [State.pop]
@[simp] theorem pop_yh  : (s.pop.2).yh = s.yh := by
  simp [State.pop]
@[simp] theorem pop_ul  : (s.pop.2).ul = s.ul := by
  simp [State.pop]
@[simp] theorem pop_uh  : (s.pop.2).uh = s.uh := by
  simp [State.pop]
@[simp] theorem pop_p  : (s.pop.2).p = s.p := by
  simp [State.pop]
@[simp] theorem pop_c  : (s.pop.2).c = s.c := by
  simp [State.pop]
@[simp] theorem pop_ie  : (s.pop.2).ie = s.ie := by
  simp [State.pop]
@[simp] theorem pop_z  : (s.pop.2).z = s.z := by
  simp [State.pop]
@[simp] theorem pop_v  : (s.pop.2).v = s.v := by
  simp [State.pop]
@[simp] theorem pop_h  : (s.pop.2).h = s.h := by
  simp [State.pop]
@[simp] theorem pop_tm  : (s.pop.2).tm = s.tm := by
  simp [State.pop]
@[simp] theorem pop_divider  : (s.pop.2).divider = s.divider := by
  simp [State.pop]
@[simp] theorem pop_wa  : (s.pop.2).wa = s.wa := by
  simp [State.pop]
@[simp] theorem pop_pu  : (s.pop.2).pu = s.pu := by
  simp [State.pop]
@[simp] theorem pop_pv  : (s.pop.2).pv = s.pv := by
  simp [State.pop]
@[simp] theorem pop_disp  : (s.pop.2).disp = s.disp := by
  simp [State.pop]
@[simp] theorem pop_bf  : (s.pop.2).bf = s.bf := by
  simp [State.pop]
@[simp] theorem pop_ir0  : (s.pop.2).ir0 = s.ir0 := by
  simp [State.pop]
@[simp] theorem pop_ir1  : (s.pop.2).ir1 = s.ir1 := by
  simp [State.pop]
@[simp] theorem pop_halted  : (s.pop.2).halted = s.halted := by
  simp [State.pop]
@[simp] theorem pop_inPins  : (s.pop.2).inPins = s.inPins := by
  simp [State.pop]
@[simp] theorem pop_mem  : (s.pop.2).mem = s.mem := by
  simp [State.pop]
@[simp] theorem pop_board  : (s.pop.2).board = s.board := by
  simp [State.pop]
@[simp] theorem pop_script  : (s.pop.2).script = s.script := by
  simp [State.pop]
@[simp] theorem pop_untilTimer  : (s.pop.2).untilTimer = s.untilTimer := by
  simp [State.pop]
@[simp] theorem pop_sp : s.pop.2.sp = s.sp + 1 := by simp [State.pop]

@[simp] theorem push16_a (w : Addr) : (s.push16 w).a = s.a := by
  simp [State.push16]
@[simp] theorem push16_xl (w : Addr) : (s.push16 w).xl = s.xl := by
  simp [State.push16]
@[simp] theorem push16_xh (w : Addr) : (s.push16 w).xh = s.xh := by
  simp [State.push16]
@[simp] theorem push16_yl (w : Addr) : (s.push16 w).yl = s.yl := by
  simp [State.push16]
@[simp] theorem push16_yh (w : Addr) : (s.push16 w).yh = s.yh := by
  simp [State.push16]
@[simp] theorem push16_ul (w : Addr) : (s.push16 w).ul = s.ul := by
  simp [State.push16]
@[simp] theorem push16_uh (w : Addr) : (s.push16 w).uh = s.uh := by
  simp [State.push16]
@[simp] theorem push16_p (w : Addr) : (s.push16 w).p = s.p := by
  simp [State.push16]
@[simp] theorem push16_c (w : Addr) : (s.push16 w).c = s.c := by
  simp [State.push16]
@[simp] theorem push16_ie (w : Addr) : (s.push16 w).ie = s.ie := by
  simp [State.push16]
@[simp] theorem push16_z (w : Addr) : (s.push16 w).z = s.z := by
  simp [State.push16]
@[simp] theorem push16_v (w : Addr) : (s.push16 w).v = s.v := by
  simp [State.push16]
@[simp] theorem push16_h (w : Addr) : (s.push16 w).h = s.h := by
  simp [State.push16]
@[simp] theorem push16_tm (w : Addr) : (s.push16 w).tm = s.tm := by
  simp [State.push16]
@[simp] theorem push16_divider (w : Addr) : (s.push16 w).divider = s.divider := by
  simp [State.push16]
@[simp] theorem push16_wa (w : Addr) : (s.push16 w).wa = s.wa := by
  simp [State.push16]
@[simp] theorem push16_pu (w : Addr) : (s.push16 w).pu = s.pu := by
  simp [State.push16]
@[simp] theorem push16_pv (w : Addr) : (s.push16 w).pv = s.pv := by
  simp [State.push16]
@[simp] theorem push16_disp (w : Addr) : (s.push16 w).disp = s.disp := by
  simp [State.push16]
@[simp] theorem push16_bf (w : Addr) : (s.push16 w).bf = s.bf := by
  simp [State.push16]
@[simp] theorem push16_ir0 (w : Addr) : (s.push16 w).ir0 = s.ir0 := by
  simp [State.push16]
@[simp] theorem push16_ir1 (w : Addr) : (s.push16 w).ir1 = s.ir1 := by
  simp [State.push16]
@[simp] theorem push16_halted (w : Addr) : (s.push16 w).halted = s.halted := by
  simp [State.push16]
@[simp] theorem push16_inPins (w : Addr) : (s.push16 w).inPins = s.inPins := by
  simp [State.push16]
@[simp] theorem push16_board (w : Addr) : (s.push16 w).board = s.board := by
  simp [State.push16]
@[simp] theorem push16_script (w : Addr) : (s.push16 w).script = s.script := by
  simp [State.push16]
@[simp] theorem push16_untilTimer (w : Addr) : (s.push16 w).untilTimer = s.untilTimer := by
  simp [State.push16]
@[simp] theorem push16_sp (w : Addr) : (s.push16 w).sp = s.sp - 2 := by
  simp only [State.push16, push_sp]; bv_omega

@[simp] theorem pop16_a  : (s.pop16.2).a = s.a := by
  simp [State.pop16]
@[simp] theorem pop16_xl  : (s.pop16.2).xl = s.xl := by
  simp [State.pop16]
@[simp] theorem pop16_xh  : (s.pop16.2).xh = s.xh := by
  simp [State.pop16]
@[simp] theorem pop16_yl  : (s.pop16.2).yl = s.yl := by
  simp [State.pop16]
@[simp] theorem pop16_yh  : (s.pop16.2).yh = s.yh := by
  simp [State.pop16]
@[simp] theorem pop16_ul  : (s.pop16.2).ul = s.ul := by
  simp [State.pop16]
@[simp] theorem pop16_uh  : (s.pop16.2).uh = s.uh := by
  simp [State.pop16]
@[simp] theorem pop16_p  : (s.pop16.2).p = s.p := by
  simp [State.pop16]
@[simp] theorem pop16_c  : (s.pop16.2).c = s.c := by
  simp [State.pop16]
@[simp] theorem pop16_ie  : (s.pop16.2).ie = s.ie := by
  simp [State.pop16]
@[simp] theorem pop16_z  : (s.pop16.2).z = s.z := by
  simp [State.pop16]
@[simp] theorem pop16_v  : (s.pop16.2).v = s.v := by
  simp [State.pop16]
@[simp] theorem pop16_h  : (s.pop16.2).h = s.h := by
  simp [State.pop16]
@[simp] theorem pop16_tm  : (s.pop16.2).tm = s.tm := by
  simp [State.pop16]
@[simp] theorem pop16_divider  : (s.pop16.2).divider = s.divider := by
  simp [State.pop16]
@[simp] theorem pop16_wa  : (s.pop16.2).wa = s.wa := by
  simp [State.pop16]
@[simp] theorem pop16_pu  : (s.pop16.2).pu = s.pu := by
  simp [State.pop16]
@[simp] theorem pop16_pv  : (s.pop16.2).pv = s.pv := by
  simp [State.pop16]
@[simp] theorem pop16_disp  : (s.pop16.2).disp = s.disp := by
  simp [State.pop16]
@[simp] theorem pop16_bf  : (s.pop16.2).bf = s.bf := by
  simp [State.pop16]
@[simp] theorem pop16_ir0  : (s.pop16.2).ir0 = s.ir0 := by
  simp [State.pop16]
@[simp] theorem pop16_ir1  : (s.pop16.2).ir1 = s.ir1 := by
  simp [State.pop16]
@[simp] theorem pop16_halted  : (s.pop16.2).halted = s.halted := by
  simp [State.pop16]
@[simp] theorem pop16_inPins  : (s.pop16.2).inPins = s.inPins := by
  simp [State.pop16]
@[simp] theorem pop16_mem  : (s.pop16.2).mem = s.mem := by
  simp [State.pop16]
@[simp] theorem pop16_board  : (s.pop16.2).board = s.board := by
  simp [State.pop16]
@[simp] theorem pop16_script  : (s.pop16.2).script = s.script := by
  simp [State.pop16]
@[simp] theorem pop16_untilTimer  : (s.pop16.2).untilTimer = s.untilTimer := by
  simp [State.pop16]
@[simp] theorem pop16_sp : s.pop16.2.sp = s.sp + 2 := by
  simp only [State.pop16, pop_sp]; bv_omega

@[simp] theorem readVector_a (w : Addr) : ((s.readVector w).2).a = s.a := by
  simp [State.readVector]
@[simp] theorem readVector_xl (w : Addr) : ((s.readVector w).2).xl = s.xl := by
  simp [State.readVector]
@[simp] theorem readVector_xh (w : Addr) : ((s.readVector w).2).xh = s.xh := by
  simp [State.readVector]
@[simp] theorem readVector_yl (w : Addr) : ((s.readVector w).2).yl = s.yl := by
  simp [State.readVector]
@[simp] theorem readVector_yh (w : Addr) : ((s.readVector w).2).yh = s.yh := by
  simp [State.readVector]
@[simp] theorem readVector_ul (w : Addr) : ((s.readVector w).2).ul = s.ul := by
  simp [State.readVector]
@[simp] theorem readVector_uh (w : Addr) : ((s.readVector w).2).uh = s.uh := by
  simp [State.readVector]
@[simp] theorem readVector_p (w : Addr) : ((s.readVector w).2).p = s.p := by
  simp [State.readVector]
@[simp] theorem readVector_sp (w : Addr) : ((s.readVector w).2).sp = s.sp := by
  simp [State.readVector]
@[simp] theorem readVector_c (w : Addr) : ((s.readVector w).2).c = s.c := by
  simp [State.readVector]
@[simp] theorem readVector_ie (w : Addr) : ((s.readVector w).2).ie = s.ie := by
  simp [State.readVector]
@[simp] theorem readVector_z (w : Addr) : ((s.readVector w).2).z = s.z := by
  simp [State.readVector]
@[simp] theorem readVector_v (w : Addr) : ((s.readVector w).2).v = s.v := by
  simp [State.readVector]
@[simp] theorem readVector_h (w : Addr) : ((s.readVector w).2).h = s.h := by
  simp [State.readVector]
@[simp] theorem readVector_tm (w : Addr) : ((s.readVector w).2).tm = s.tm := by
  simp [State.readVector]
@[simp] theorem readVector_divider (w : Addr) : ((s.readVector w).2).divider = s.divider := by
  simp [State.readVector]
@[simp] theorem readVector_wa (w : Addr) : ((s.readVector w).2).wa = s.wa := by
  simp [State.readVector]
@[simp] theorem readVector_pu (w : Addr) : ((s.readVector w).2).pu = s.pu := by
  simp [State.readVector]
@[simp] theorem readVector_pv (w : Addr) : ((s.readVector w).2).pv = s.pv := by
  simp [State.readVector]
@[simp] theorem readVector_disp (w : Addr) : ((s.readVector w).2).disp = s.disp := by
  simp [State.readVector]
@[simp] theorem readVector_bf (w : Addr) : ((s.readVector w).2).bf = s.bf := by
  simp [State.readVector]
@[simp] theorem readVector_ir0 (w : Addr) : ((s.readVector w).2).ir0 = s.ir0 := by
  simp [State.readVector]
@[simp] theorem readVector_ir1 (w : Addr) : ((s.readVector w).2).ir1 = s.ir1 := by
  simp [State.readVector]
@[simp] theorem readVector_halted (w : Addr) : ((s.readVector w).2).halted = s.halted := by
  simp [State.readVector]
@[simp] theorem readVector_inPins (w : Addr) : ((s.readVector w).2).inPins = s.inPins := by
  simp [State.readVector]
@[simp] theorem readVector_mem (w : Addr) : ((s.readVector w).2).mem = s.mem := by
  simp [State.readVector]
@[simp] theorem readVector_board (w : Addr) : ((s.readVector w).2).board = s.board := by
  simp [State.readVector]
@[simp] theorem readVector_script (w : Addr) : ((s.readVector w).2).script = s.script := by
  simp [State.readVector]
@[simp] theorem readVector_untilTimer (w : Addr) : ((s.readVector w).2).untilTimer = s.untilTimer := by
  simp [State.readVector]

@[simp] theorem fetch_a  : (s.fetch.2).a = s.a := by
  simp [State.fetch]
@[simp] theorem fetch_xl  : (s.fetch.2).xl = s.xl := by
  simp [State.fetch]
@[simp] theorem fetch_xh  : (s.fetch.2).xh = s.xh := by
  simp [State.fetch]
@[simp] theorem fetch_yl  : (s.fetch.2).yl = s.yl := by
  simp [State.fetch]
@[simp] theorem fetch_yh  : (s.fetch.2).yh = s.yh := by
  simp [State.fetch]
@[simp] theorem fetch_ul  : (s.fetch.2).ul = s.ul := by
  simp [State.fetch]
@[simp] theorem fetch_uh  : (s.fetch.2).uh = s.uh := by
  simp [State.fetch]
@[simp] theorem fetch_sp  : (s.fetch.2).sp = s.sp := by
  simp [State.fetch]
@[simp] theorem fetch_c  : (s.fetch.2).c = s.c := by
  simp [State.fetch]
@[simp] theorem fetch_ie  : (s.fetch.2).ie = s.ie := by
  simp [State.fetch]
@[simp] theorem fetch_z  : (s.fetch.2).z = s.z := by
  simp [State.fetch]
@[simp] theorem fetch_v  : (s.fetch.2).v = s.v := by
  simp [State.fetch]
@[simp] theorem fetch_h  : (s.fetch.2).h = s.h := by
  simp [State.fetch]
@[simp] theorem fetch_tm  : (s.fetch.2).tm = s.tm := by
  simp [State.fetch]
@[simp] theorem fetch_divider  : (s.fetch.2).divider = s.divider := by
  simp [State.fetch]
@[simp] theorem fetch_wa  : (s.fetch.2).wa = s.wa := by
  simp [State.fetch]
@[simp] theorem fetch_pu  : (s.fetch.2).pu = s.pu := by
  simp [State.fetch]
@[simp] theorem fetch_pv  : (s.fetch.2).pv = s.pv := by
  simp [State.fetch]
@[simp] theorem fetch_disp  : (s.fetch.2).disp = s.disp := by
  simp [State.fetch]
@[simp] theorem fetch_bf  : (s.fetch.2).bf = s.bf := by
  simp [State.fetch]
@[simp] theorem fetch_ir0  : (s.fetch.2).ir0 = s.ir0 := by
  simp [State.fetch]
@[simp] theorem fetch_ir1  : (s.fetch.2).ir1 = s.ir1 := by
  simp [State.fetch]
@[simp] theorem fetch_halted  : (s.fetch.2).halted = s.halted := by
  simp [State.fetch]
@[simp] theorem fetch_inPins  : (s.fetch.2).inPins = s.inPins := by
  simp [State.fetch]
@[simp] theorem fetch_mem  : (s.fetch.2).mem = s.mem := by
  simp [State.fetch]
@[simp] theorem fetch_board  : (s.fetch.2).board = s.board := by
  simp [State.fetch]
@[simp] theorem fetch_script  : (s.fetch.2).script = s.script := by
  simp [State.fetch]
@[simp] theorem fetch_untilTimer  : (s.fetch.2).untilTimer = s.untilTimer := by
  simp [State.fetch]
@[simp] theorem fetch_p : s.fetch.2.p = s.p + 1 := by simp [State.fetch]

@[simp] theorem readOperand_reg (o : Operand) (r : Reg8) : (s.readOperand o).2.reg r = s.reg r := by
  cases r <;> simp [State.reg]
@[simp] theorem readOperand_pair (o : Operand) (r : Pair) : (s.readOperand o).2.pair r = s.pair r := by
  cases r <;> simp [State.pair, State.reg, Pair.hi, Pair.lo]
@[simp] theorem busWrite_pair (sp : Space) (w : Addr) (b : Byte) (r : Pair) : (s.busWrite sp w b).pair r = s.pair r := by
  cases r <;> simp [State.pair, State.reg, Pair.hi, Pair.lo]
@[simp] theorem resolve_busRead (sp sp' : Space) (w w' : Addr) :
    (s.busRead sp w).2.resolve sp' w' = s.resolve sp' w' := by
  simp [State.resolve, Region.covers]
@[simp] theorem resolve_busWrite (sp sp' : Space) (w w' : Addr) (b : Byte) :
    (s.busWrite sp w b).resolve sp' w' = s.resolve sp' w' := by
  simp [State.resolve, Region.covers]

end Sys2Proof.Machine
end

