-- ==== Sys2Proof/Laws/Ioc.lean ====
section
/-! SUPPORT. What an access to a controller and an event at its pins can do: the port levels bit by bit, the edge of PB7,
the line to MI, and the latching of OPC. -/

namespace Sys2Proof.Machine

variable (s : State)

@[simp] theorem Iocs.get_put (c : Iocs) (u w : IocUnit) (d : Ioc) :
    (c.put u d).get w = if w = u then d else c.get w := by
  cases u <;> cases w <;> rfl

/-- One pin of a port: OP where the direction bit is 1, the outside level where it is 0. -/
theorem portLevels_getLsbD (dd op pins : Byte) {n : Nat} (h : n < 8) :
    (portLevels dd op pins).getLsbD n = if dd.getLsbD n then op.getLsbD n else pins.getLsbD n := by
  unfold portLevels
  simp only [BitVec.getLsbD_or, BitVec.getLsbD_and, BitVec.getLsbD_not, h, decide_true, Bool.true_and]
  cases dd.getLsbD n <;> simp

/-- Without a rise of PB7 a change of the controller sets no flag of its own. -/
theorem pb7Edge_of_not_rise {old new : Ioc} (free : Bool)
    (h : ¬ (old.portB.getLsbD 7 = false ∧ new.portB.getLsbD 7 = true)) : old.pb7Edge new free = new := by
  unfold Ioc.pb7Edge
  rcases hold : old.portB.getLsbD 7 <;> rcases hnew : new.portB.getLsbD 7 <;> simp_all

/-- What the edge of PB7 can do: set IF1, and only on a rise. -/
theorem pb7Edge_parts (old new : Ioc) (free : Bool) : ∃ edge, old.pb7Edge new free = { new with if1 := new.if1 || edge } ∧
    (edge = true → old.portB.getLsbD 7 = false ∧ new.portB.getLsbD 7 = true) :=
  ⟨_, rfl, by simp only [Bool.and_eq_true, Bool.not_eq_true']; exact fun h => h.1⟩

/-- A read leaves the levels of port B as they are. -/
theorem read_portB (d : Ioc) (reg : BitVec 4) (free : Byte) : (d.read reg free).2.portB = d.portB := by
  unfold Ioc.read
  split <;> try rfl
  apply BitVec.eq_of_getLsbD_eq
  intro n hn
  simp only [Ioc.portB, portLevels_getLsbD _ _ _ hn]
  split <;> simp_all

/-- A read at a controller: the answer and the controller afterwards, with no edge of PB7. -/
theorem iocRead_eq (u : IocUnit) (reg : BitVec 4) :
    s.iocRead u reg =
      (((s.ioc u).read reg (Config.freeByte s.draws)).1, { s with
        iocs := s.iocs.put u ((s.ioc u).read reg (Config.freeByte s.draws)).2, draws := s.draws + 1
        ir2 := s.ir2 || (!s.miLine && (s.iocRead u reg).2.miLine) }) := by
  have h := pb7Edge_of_not_rise (old := s.ioc u) (new := ((s.ioc u).read reg (Config.freeByte s.draws)).2)
    (Config.freeBit s.draws) (by rw [read_portB]; simp)
  simp only [State.iocRead, State.setIoc, h]
  rfl

/-- A write at a controller: the controller afterwards, but that a rise of PB7 may set IF1, and the serial output. -/
theorem iocWrite_eq (u : IocUnit) (reg : BitVec 4) (v : Byte) : ∃ edge,
    s.iocWrite u reg v = { s with
      iocs := s.iocs.put u { (s.ioc u).write reg v with if1 := ((s.ioc u).write reg v).if1 || edge }
      draws := s.draws + 1
      out := if reg = 6#4 then .serialOut u v :: s.out else s.out
      ir2 := s.ir2 || (!s.miLine && (s.iocWrite u reg v).miLine) } ∧
    (edge = true → (s.ioc u).portB.getLsbD 7 = false ∧ ((s.ioc u).write reg v).portB.getLsbD 7 = true) := by
  obtain ⟨edge, he, hr⟩ := pb7Edge_parts (s.ioc u) ((s.ioc u).write reg v) (Config.freeBit s.draws)
  refine ⟨edge, ?_, hr⟩
  simp only [State.iocWrite, State.setIoc, he]
  split <;> rfl

/-- A read cycle sets IR2 exactly on a rise of the line to MI. -/
theorem busRead_ir2 (sp : Space) (a : Addr) :
    (s.busRead sp a).2.ir2 = (s.ir2 || (!s.miLine && (s.busRead sp a).2.miLine)) := by
  have same (t : State) (h : t.miLine = s.miLine) (hr : t.ir2 = s.ir2) : t.ir2 = (s.ir2 || (!s.miLine && t.miLine)) := by
    rw [h, hr]; simp
  unfold State.busRead
  cases s.resolve sp a with
  | ioc u => exact setIoc_ir2 s u _
  | ram k => exact same _ rfl rfl
  | rom k => exact same _ rfl rfl
  | device => exact same _ rfl rfl
  | absent => exact same _ rfl rfl
  | fixed v => exact same _ rfl rfl

/-- A write cycle sets IR2 exactly on a rise of the line to MI. -/
theorem busWrite_ir2 (sp : Space) (a : Addr) (v : Byte) :
    (s.busWrite sp a v).ir2 = (s.ir2 || (!s.miLine && (s.busWrite sp a v).miLine)) := by
  have same (t : State) (h : t.miLine = s.miLine) (hr : t.ir2 = s.ir2) : t.ir2 = (s.ir2 || (!s.miLine && t.miLine)) := by
    rw [h, hr]; simp
  unfold State.busWrite
  cases s.resolve sp a with
  | ioc u =>
    dsimp only
    rw [iocWrite_parts]; exact setIoc_ir2 s u _
  | ram k => exact same _ rfl rfl
  | rom k => exact same _ rfl rfl
  | device => exact same _ rfl rfl
  | absent => exact same _ rfl rfl
  | fixed v => exact same _ rfl rfl

/-- Latching changes OPC of the controllers named, with no edge of PB7. -/
theorem latchPorts_ioc (us : List IocUnit) (w : IocUnit) :
    (s.latchPorts us).ioc w = if w ∈ us then { s.ioc w with opc := s.a } else s.ioc w := by
  induction us generalizing s with
  | nil => simp [State.latchPorts]
  | cons u us ih =>
    have h : (s.ioc u).pb7Edge { s.ioc u with opc := s.a } (Config.freeBit s.draws) = { s.ioc u with opc := s.a } :=
      pb7Edge_of_not_rise _ (by simp [Ioc.portB])
    simp only [State.latchPorts, ih, ioc_setIoc, setIoc_a, h, List.mem_cons]
    by_cases h1 : w = u <;> by_cases h2 : w ∈ us <;> simp [h1, h2]

/-- Latching leaves the line to MI and IR2 as they are: OPC is no part of INT. -/
theorem latchPorts_miLine (us : List IocUnit) : (s.latchPorts us).miLine = s.miLine := by
  unfold State.miLine
  rw [latchPorts_board]
  congr 1
  funext w
  rw [latchPorts_ioc]
  split <;> rfl

theorem latchPorts_ir2 (us : List IocUnit) : (s.latchPorts us).ir2 = s.ir2 := by
  induction us generalizing s with
  | nil => rfl
  | cons u us ih =>
    have h := latchPorts_miLine s [u]
    simp only [State.latchPorts] at h ⊢
    rw [ih, setIoc_ir2, h]; simp

end Sys2Proof.Machine
end

