-- ==== Sys2Proof/Laws/Memory.lean ====
section
/-! SUPPORT. The laws of memory: a read after a write, and the canonical form. -/

namespace Sys2Proof.Machine

theorem Memory.write_nil (k : Nat) (v : Byte) :
    Memory.write [] k v = if v = Config.unlistedByte then [] else [(k, v)] := rfl

/-- A cell below every listed cell is not listed. -/
theorem Memory.read_of_lt {m : Memory} {k : Nat} (h : m.all (fun e => decide (k < e.1)) = true) :
    m.read k = Config.unlistedByte := by
  induction m with
  | nil => rfl
  | cons e rest ih =>
    simp only [List.all_cons, Bool.and_eq_true, decide_eq_true_eq] at h
    have hne : e.1 ≠ k := by omega
    simp [Memory.read, hne, ih h.2]

/-- A write leaves every other cell alone. -/
theorem Memory.read_write_other (m : Memory) {j k : Nat} (v : Byte) (h : j ≠ k) :
    (m.write k v).read j = m.read j := by
  induction m with
  | nil => unfold Memory.write; split <;> simp [Memory.read, Ne.symm h]
  | cons e rest ih =>
    unfold Memory.write
    split_ifs <;> simp_all [Memory.read, eq_comm]

/-- A write to a canonical memory is read back. -/
theorem Memory.read_write_same {m : Memory} (hm : m.wf = true) (k : Nat) (v : Byte) :
    (m.write k v).read k = v := by
  induction m with
  | nil => unfold Memory.write; split <;> simp_all [Memory.read]
  | cons e rest ih =>
    simp only [Memory.wf, Bool.and_eq_true, decide_eq_true_eq] at hm
    obtain ⟨⟨-, hlt⟩, hrest⟩ := hm
    unfold Memory.write
    split_ifs with h1 h2 h3 h4
    · have := Memory.read_of_lt hlt
      subst h2
      have hb : rest.all (fun x => decide (k < x.1)) = true := by
        simp only [List.all_eq_true, decide_eq_true_eq] at hlt ⊢
        intro x hx; have := hlt x hx; omega
      simp [Memory.read, show e.1 ≠ k by omega, Memory.read_of_lt hb]
    · simp [Memory.read]
    · subst h3 h4; exact Memory.read_of_lt hlt
    · simp [Memory.read]
    · simp [Memory.read, show e.1 ≠ k from fun h => h3 h.symm, ih hrest]

/-- The cells of a written memory are those it had, and the one written. -/
theorem Memory.all_lt_write {m : Memory} {j k : Nat} (v : Byte)
    (hm : m.all (fun e => decide (j < e.1)) = true) (hk : j < k) :
    (m.write k v).all (fun e => decide (j < e.1)) = true := by
  induction m with
  | nil => unfold Memory.write; split <;> simp [hk]
  | cons e rest ih =>
    simp only [List.all_cons, Bool.and_eq_true, decide_eq_true_eq] at hm
    obtain ⟨h1, h2⟩ := hm
    unfold Memory.write
    split_ifs <;> simp only [List.all_cons, Bool.and_eq_true, decide_eq_true_eq, h1, h2, hk, ih h2,
      and_true]

/-- Every write keeps the canonical form. -/
theorem Memory.wf_write {m : Memory} (hm : m.wf = true) (k : Nat) (v : Byte) : (m.write k v).wf = true := by
  induction m with
  | nil => unfold Memory.write; split <;> simp_all [Memory.wf]
  | cons e rest ih =>
    have hm' := hm
    simp only [Memory.wf, Bool.and_eq_true, decide_eq_true_eq] at hm'
    obtain ⟨⟨hne, hlt⟩, hrest⟩ := hm'
    have below {j : Nat} (hj : j ≤ e.1) : rest.all (fun x => decide (j < x.1)) = true := by
      simp only [List.all_eq_true, decide_eq_true_eq] at hlt ⊢
      intro x hx; have := hlt x hx; omega
    unfold Memory.write
    split_ifs with h1 h2 h3 h4
    · exact hm
    · simp only [Memory.wf, List.all_cons, Bool.and_eq_true, decide_eq_true_eq]
      exact ⟨⟨h2, h1, below (by omega)⟩, ⟨hne, hlt⟩, hrest⟩
    · exact hrest
    · simp only [Memory.wf, Bool.and_eq_true, decide_eq_true_eq]
      exact ⟨⟨h4, below (by omega)⟩, hrest⟩
    · simp only [Memory.wf, Bool.and_eq_true, decide_eq_true_eq]
      exact ⟨⟨hne, Memory.all_lt_write v hlt (by omega)⟩, ih hrest⟩

/-- State.reset's memory has the canonical form. -/
theorem State.reset_mem_wf : State.reset.mem.wf = true := rfl

end Sys2Proof.Machine
end

