-- ==== Sys2Proof/Laws/Ops.lean ====
section
/-! SUPPORT. One lemma per shared operation that says once what it can do to memory, and what a bus cycle answers. -/

namespace Sys2Proof.Machine

variable (s : State)

/-! ### Bus cycles -/

/-- A cell that can be written can be read. -/
theorem readCell_of_ramCell {s : State} {sp : Space} {a : Addr} {k : Nat} (h : s.ramCell sp a = some k) :
    s.readCell sp a = some k := by
  unfold State.ramCell at h; unfold State.readCell
  split at h <;> simp_all

/-- A read at RAM or ROM gives the cell's byte and changes nothing. -/
theorem busRead_of_readCell {s : State} {sp : Space} {a : Addr} {k : Nat} (h : s.readCell sp a = some k) :
    s.busRead sp a = (s.mem.read k, s) := by
  unfold State.readCell at h; unfold State.busRead
  split at h <;> simp_all

/-- A write at RAM stores the byte in the cell and changes nothing else. -/
theorem busWrite_of_ramCell {s : State} {sp : Space} {a : Addr} {k : Nat} (v : Byte) (h : s.ramCell sp a = some k) :
    s.busWrite sp a v = { s with mem := s.mem.write k v } := by
  unfold State.ramCell at h; unfold State.busWrite
  split at h <;> simp_all

/-- Memory after any write cycle: the cell of a RAM address changes, else nothing. -/
theorem busWrite_mem (sp : Space) (a : Addr) (v : Byte) :
    (s.busWrite sp a v).mem = match s.ramCell sp a with
      | some k => s.mem.write k v
      | none => s.mem := by
  unfold State.busWrite State.ramCell
  cases s.resolve sp a <;> simp
  unfold State.iocWrite; dsimp only; split <;> simp

/-- Every write cycle keeps the canonical form. -/
theorem busWrite_wf {s : State} (h : s.mem.wf = true) (sp : Space) (a : Addr) (v : Byte) :
    (s.busWrite sp a v).mem.wf = true := by
  rw [busWrite_mem]; split
  · exact Memory.wf_write h _ _
  · exact h

/-- A write cycle leaves every cell alone but the one of its address. -/
theorem busWrite_read_other (sp : Space) (a : Addr) (v : Byte) {k : Nat} (h : s.ramCell sp a ≠ some k) :
    (s.busWrite sp a v).mem.read k = s.mem.read k := by
  rw [busWrite_mem]; split
  · rename_i j hj; exact Memory.read_write_other _ _ (fun e => h (by rw [hj, e]))
  · rfl

@[simp] theorem ramCell_busRead (sp sp' : Space) (a a' : Addr) :
    (s.busRead sp a).2.ramCell sp' a' = s.ramCell sp' a' := by simp [State.ramCell]
@[simp] theorem ramCell_busWrite (sp sp' : Space) (a a' : Addr) (v : Byte) :
    (s.busWrite sp a v).ramCell sp' a' = s.ramCell sp' a' := by simp [State.ramCell]
@[simp] theorem readCell_busRead (sp sp' : Space) (a a' : Addr) :
    (s.busRead sp a).2.readCell sp' a' = s.readCell sp' a' := by simp [State.readCell]
@[simp] theorem readCell_busWrite (sp sp' : Space) (a a' : Addr) (v : Byte) :
    (s.busWrite sp a v).readCell sp' a' = s.readCell sp' a' := by simp [State.readCell]

/-! ### The map depends on PV, PU, BF and the board alone -/

theorem resolve_congr {s t : State} (hb : t.board = s.board) (hv : t.pv = s.pv) (hu : t.pu = s.pu) (hf : t.bf = s.bf)
    (sp : Space) (a : Addr) : t.resolve sp a = s.resolve sp a := by
  simp [State.resolve, Region.covers, hb, hv, hu, hf]

theorem ramCell_congr {s t : State} (hb : t.board = s.board) (hv : t.pv = s.pv) (hu : t.pu = s.pu) (hf : t.bf = s.bf)
    (sp : Space) (a : Addr) : t.ramCell sp a = s.ramCell sp a := by
  simp only [State.ramCell, resolve_congr hb hv hu hf]

theorem readCell_congr {s t : State} (hb : t.board = s.board) (hv : t.pv = s.pv) (hu : t.pu = s.pu) (hf : t.bf = s.bf)
    (sp : Space) (a : Addr) : t.readCell sp a = s.readCell sp a := by
  simp only [State.readCell, resolve_congr hb hv hu hf]

/-! ### The stack -/

theorem push_mem (v : Byte) : (s.push v).mem = (s.busWrite .me0 s.sp v).mem := rfl

theorem push_wf {s : State} (h : s.mem.wf = true) (v : Byte) : (s.push v).mem.wf = true := by
  rw [push_mem]; exact busWrite_wf h _ _ _

@[simp] theorem ramCell_push (sp : Space) (a : Addr) (v : Byte) : (s.push v).ramCell sp a = s.ramCell sp a :=
  ramCell_congr (by simp) (by simp) (by simp) (by simp) sp a

theorem push16_wf {s : State} (h : s.mem.wf = true) (w : Addr) : (s.push16 w).mem.wf = true := push_wf (push_wf h _) _

/-- The two bytes of a pushed value: low byte at S, high byte at S - 1. -/
theorem push16_mem (w : Addr) :
    (s.push16 w).mem = ((s.busWrite .me0 s.sp (loByte w)).busWrite .me0 (s.sp - 1) (hiByte w)).mem := by
  have hsp : (s.push (loByte w)).sp = s.sp - 1 := by simp
  unfold State.push16
  rw [push_mem, hsp, busWrite_mem, busWrite_mem, ramCell_push, ramCell_busWrite]; rfl

theorem push16_read_other (w : Addr) {k : Nat} (h0 : s.ramCell .me0 s.sp ≠ some k)
    (h1 : s.ramCell .me0 (s.sp - 1) ≠ some k) : (s.push16 w).mem.read k = s.mem.read k := by
  rw [push16_mem, busWrite_read_other _ _ _ _ (by rwa [ramCell_busWrite]), busWrite_read_other _ _ _ _ h0]

/-! ### What the stack operations are, in bus cycles -/

/-- Bytes of a 16-bit value as a number. -/
theorem ofBytes_toNat (hi lo : Byte) : (ofBytes hi lo).toNat = 256 * hi.toNat + lo.toNat := by
  have := lo.isLt
  simp only [ofBytes, BitVec.toNat_append]
  rw [← Nat.shiftLeft_add_eq_or_of_lt this, Nat.shiftLeft_eq]; omega

@[simp] theorem hiByte_ofBytes (hi lo : Byte) : hiByte (ofBytes hi lo) = hi := by
  apply BitVec.eq_of_toNat_eq
  have := hi.isLt; have := lo.isLt
  simp only [hiByte, BitVec.extractLsb'_toNat, ofBytes_toNat, Nat.shiftRight_eq_div_pow]; omega

@[simp] theorem loByte_ofBytes (hi lo : Byte) : loByte (ofBytes hi lo) = lo := by
  apply BitVec.eq_of_toNat_eq
  have := hi.isLt; have := lo.isLt
  simp only [loByte, BitVec.extractLsb'_toNat, ofBytes_toNat, Nat.shiftRight_eq_div_pow]; omega

@[simp] theorem ofBytes_hiByte_loByte (w : Addr) : ofBytes (hiByte w) (loByte w) = w := by
  apply BitVec.eq_of_toNat_eq
  have := w.isLt
  simp only [ofBytes_toNat, hiByte, loByte, BitVec.extractLsb'_toNat, Nat.shiftRight_eq_div_pow]; omega

/-- A write cycle does not look at S. -/
theorem busWrite_with_sp (w : Addr) (sp : Space) (a : Addr) (v : Byte) :
    ({ s with sp := w } : State).busWrite sp a v = { s.busWrite sp a v with sp := w } := by
  have h : ({ s with sp := w } : State).resolve sp a = s.resolve sp a := rfl
  unfold State.busWrite; rw [h]; cases s.resolve sp a <;> try rfl
  change ({ s with sp := w } : State).iocWrite _ _ _ = _
  unfold State.iocWrite; dsimp only; split <;> rfl

/-- A read cycle does not look at S. -/
theorem busRead_with_sp (w : Addr) (sp : Space) (a : Addr) :
    ({ s with sp := w } : State).busRead sp a = ((s.busRead sp a).1, { (s.busRead sp a).2 with sp := w }) := by
  have h : ({ s with sp := w } : State).resolve sp a = s.resolve sp a := rfl
  unfold State.busRead; rw [h]; cases s.resolve sp a <;> rfl

theorem push_eq (v : Byte) : s.push v = { s.busWrite .me0 s.sp v with sp := s.sp - 1 } := by
  have h : (s.busWrite .me0 s.sp v).sp = s.sp := by simp
  unfold State.push; dsimp only; rw [h]

theorem push_push_eq (x y : Byte) : (s.push x).push y =
    { (s.busWrite .me0 s.sp x).busWrite .me0 (s.sp - 1) y with sp := s.sp - 2 } := by
  rw [push_eq, push_eq, busWrite_with_sp]; dsimp only
  rw [show s.sp - 1 - 1 = s.sp - 2 by rw [BitVec.sub_sub]; rfl]

theorem push16_eq (w : Addr) : s.push16 w =
    { (s.busWrite .me0 s.sp (loByte w)).busWrite .me0 (s.sp - 1) (hiByte w) with sp := s.sp - 2 } :=
  push_push_eq s _ _

theorem pop_eq : s.pop =
    ((s.busRead .me0 (s.sp + 1)).1, { (s.busRead .me0 (s.sp + 1)).2 with sp := s.sp + 1 }) := by
  unfold State.pop; dsimp only; rw [busRead_with_sp]

theorem pop16_eq : s.pop16 =
    (ofBytes (s.busRead .me0 (s.sp + 1)).1 ((s.busRead .me0 (s.sp + 1)).2.busRead .me0 (s.sp + 2)).1,
      { ((s.busRead .me0 (s.sp + 1)).2.busRead .me0 (s.sp + 2)).2 with sp := s.sp + 2 }) := by
  unfold State.pop16; rw [pop_eq]; dsimp only; rw [pop_eq]; dsimp only
  rw [show s.sp + 1 + 1 = s.sp + 2 by rw [BitVec.add_assoc]; rfl, busRead_with_sp (s.busRead .me0 (s.sp + 1)).2]

theorem popP_eq : s.popP =
    { ((s.busRead .me0 (s.sp + 1)).2.busRead .me0 (s.sp + 2)).2 with
      sp := s.sp + 2
      p := ofBytes (s.busRead .me0 (s.sp + 1)).1 ((s.busRead .me0 (s.sp + 1)).2.busRead .me0 (s.sp + 2)).1 } := by
  unfold State.popP; rw [pop16_eq]

/-! ### Operands -/

theorem writeOperand_wf {s : State} (h : s.mem.wf = true) (o : Operand) (v : Byte) :
    (s.writeOperand o v).mem.wf = true := by
  cases o with
  | reg r => cases r <;> exact h
  | ind sp r => exact busWrite_wf h _ _ _
  | abs sp a b => exact busWrite_wf h _ _ _

/-! ### Calls, returns, interrupts, reset -/

theorem vectorCall_wf {s : State} (h : s.mem.wf = true) (i : Byte) : (s.vectorCall i).mem.wf = true := by
  simpa [State.vectorCall] using push16_wf h _

theorem popP_mem : s.popP.mem = s.mem := by simp [State.popP]

theorem returnFromInterrupt_mem : s.returnFromInterrupt.mem = s.mem := by
  simp [State.returnFromInterrupt, popP_mem]

theorem takeInterrupt_wf {s : State} (h : s.mem.wf = true) (n : Interrupt) : (s.takeInterrupt n).mem.wf = true := by
  have h1 : (({ s.push s.t with ie := false }).clearRequest n).mem.wf = true := by
    simpa using push_wf h s.t
  simpa [State.takeInterrupt] using push16_wf h1 _

theorem resetCpu_mem : s.resetCpu.mem = s.mem := by simp [State.resetCpu]

theorem loadByte_wf {s : State} (h : s.mem.wf = true) (a : Addr) (v : Byte) : (s.loadByte a v).mem.wf = true := by
  unfold State.loadByte
  split <;> exact Memory.wf_write h _ _

end Sys2Proof.Machine
end

