-- ==== Sys2Proof/Laws/Meanings.lean ====
section
/-! SUPPORT. One lemma per shared meaning that says what it leaves in memory. -/

namespace Sys2Proof.Machine

variable {s t : State}

/-! ### Meanings that store nothing -/

theorem adc_mem {o : Operand} (h : adc o s = .next t) : t.mem = s.mem := by
  unfold adc at h; cases h; simp

theorem adiA_mem {i : Byte} (h : adiA i s = .next t) : t.mem = s.mem := by
  unfold adiA at h; cases h; simp

theorem dca_mem {o : Operand} (h : dca o s = .next t) : t.mem = s.mem := by
  unfold dca at h; cases h; simp

theorem adr_mem {r : Pair} (h : adr r s = .next t) : t.mem = s.mem := by
  unfold adr at h; cases h; simp

theorem sbc_mem {o : Operand} (h : sbc o s = .next t) : t.mem = s.mem := by
  unfold sbc at h; cases h; simp

theorem sbiA_mem {i : Byte} (h : sbiA i s = .next t) : t.mem = s.mem := by
  unfold sbiA at h; cases h; simp

theorem dcs_mem {o : Operand} (h : dcs o s = .next t) : t.mem = s.mem := by
  unfold dcs at h; cases h; simp

theorem logicToA_mem {f : Byte → Byte → Byte} {o : Operand} (h : logicToA f o s = .next t) : t.mem = s.mem := by
  unfold logicToA at h; cases h; simp

theorem logicImmA_mem {f : Byte → Byte → Byte} {i : Byte} (h : logicImmA f i s = .next t) : t.mem = s.mem := by
  unfold logicImmA at h; cases h; simp

theorem inc8_mem {r : Reg8} (h : inc8 r s = .next t) : t.mem = s.mem := by
  unfold inc8 at h; cases h; simp

theorem dec8_mem {r : Reg8} (h : dec8 r s = .next t) : t.mem = s.mem := by
  unfold dec8 at h; cases h; simp

theorem inc16_mem {r : Pair} (h : inc16 r s = .next t) : t.mem = s.mem := by
  unfold inc16 at h; cases h; simp

theorem dec16_mem {r : Pair} (h : dec16 r s = .next t) : t.mem = s.mem := by
  unfold dec16 at h; cases h; simp

theorem cpa_mem {o : Operand} (h : cpa o s = .next t) : t.mem = s.mem := by
  unfold cpa at h; cases h; simp

theorem cpi_mem {r : Reg8} {i : Byte} (h : cpi r i s = .next t) : t.mem = s.mem := by
  unfold cpi at h; cases h; simp

theorem bit_mem {o : Operand} (h : bit o s = .next t) : t.mem = s.mem := by
  unfold bit at h; cases h; simp

theorem bii_mem {o : Operand} {i : Byte} (h : bii o i s = .next t) : t.mem = s.mem := by
  unfold bii at h; cases h; simp

theorem lda_mem {o : Operand} (h : lda o s = .next t) : t.mem = s.mem := by
  unfold lda at h; cases h; simp

theorem loadStep_mem {r : Pair} {d : Addr} (h : loadStep r d s = .next t) : t.mem = s.mem := by
  unfold loadStep at h; cases h; simp

theorem ldiA_mem {i : Byte} (h : ldiA i s = .next t) : t.mem = s.mem := by
  unfold ldiA at h; cases h; simp

theorem popA_mem (h : popA s = .next t) : t.mem = s.mem := by
  unfold popA at h; cases h; simp

theorem popPair_mem {r : Pair} (h : popPair r s = .next t) : t.mem = s.mem := by
  unfold popPair at h; cases h; simp

theorem cin_mem (h : cin s = .next t) : t.mem = s.mem := by
  unfold cin at h; cases h; simp

theorem shiftA_mem {o : Bool} {v : Byte} (h : shiftA o v s = .next t) : t.mem = s.mem := by
  unfold shiftA at h; cases h; simp

theorem branchForward_mem {c : Bool} {i : Byte} (h : branchForward c i s = .next t) : t.mem = s.mem := by
  unfold branchForward at h; cases c <;> cases h <;> rfl

theorem branchBack_mem {c : Bool} {i : Byte} (h : branchBack c i s = .next t) : t.mem = s.mem := by
  unfold branchBack at h; cases c <;> cases h <;> rfl

theorem lop_mem {i : Byte} (h : lop i s = .next t) : t.mem = s.mem := by
  unfold lop at h; cases h; split <;> rfl

theorem atp_mem (h : atp s = .next t) : t.mem = s.mem := by
  unfold atp at h; cases h; simp

theorem am1_mem (h : am1 s = .next t) : t.mem = s.mem := by
  unfold am1 at h; cases h; split <;> rfl

/-! ### Meanings that store -/

/-- A byte written to an operand of a state that agrees with `s` on memory, pairs and map leaves the same memory as the
write to the operand of `s`. -/
theorem writeOperand_mem_congr {u : State} (o : Operand) (v : Byte) (hm : u.mem = s.mem)
    (hp : ∀ p, u.pair p = s.pair p) (hr : ∀ sp a, u.ramCell sp a = s.ramCell sp a) :
    (u.writeOperand o v).mem = (s.writeOperand o v).mem := by
  cases o with
  | reg r => cases r <;> exact hm
  | ind sp p => simp only [State.writeOperand, busWrite_mem, hr, hp, hm]
  | abs sp a b => simp only [State.writeOperand, busWrite_mem, hr, hm]

theorem writeOperand_readOperand_mem (o q : Operand) (v : Byte) :
    ((s.readOperand q).2.writeOperand o v).mem = (s.writeOperand o v).mem :=
  writeOperand_mem_congr o v (by simp) (by simp) (ramCell_congr (by simp) (by simp) (by simp) (by simp))

/-- Memory after a write to an operand: as before in every cell but that of the operand's address. -/
theorem writeOperand_read_other (o : Operand) (v : Byte) {k : Nat}
    (h : ∀ w, o.address s = some w → s.ramCell w.1 w.2 ≠ some k) :
    (s.writeOperand o v).mem.read k = s.mem.read k := by
  cases o with
  | reg r => cases r <;> rfl
  | ind sp p => exact busWrite_read_other _ _ _ _ (h _ rfl)
  | abs sp a b => exact busWrite_read_other _ _ _ _ (h _ rfl)

theorem adiMem_mem {o : Operand} {i : Byte} (h : adiMem o i s = .next t) :
    ∃ v, t.mem = (s.writeOperand o v).mem := by
  unfold adiMem at h; cases h; exact ⟨_, writeOperand_readOperand_mem o o _⟩

theorem logicImmMem_mem {f : Byte → Byte → Byte} {o : Operand} {i : Byte} (h : logicImmMem f o i s = .next t) :
    ∃ v, t.mem = (s.writeOperand o v).mem := by
  unfold logicImmMem at h; cases h; exact ⟨_, writeOperand_readOperand_mem o o _⟩

theorem sta_mem {o : Operand} (h : sta o s = .next t) : t.mem = (s.writeOperand o s.a).mem := by
  unfold sta at h; cases h; rfl

theorem storeStep_mem {r : Pair} {d : Addr} (h : storeStep r d s = .next t) :
    t.mem = (s.writeOperand (.ind .me0 r) s.a).mem := by
  unfold storeStep at h; cases h; simp

theorem tin_mem (h : tin s = .next t) : ∃ v, t.mem = (s.writeOperand (.ind .me0 .y) v).mem := by
  unfold tin at h; cases h
  exact ⟨_, by simpa using writeOperand_readOperand_mem (.ind .me0 .y) (.ind .me0 .x) _⟩

theorem drl_mem {sp : Space} (h : drl sp s = .next t) : ∃ v, t.mem = (s.writeOperand (.ind sp .x) v).mem := by
  unfold drl at h; cases h; exact ⟨_, writeOperand_readOperand_mem _ _ _⟩

theorem drr_mem {sp : Space} (h : drr sp s = .next t) : ∃ v, t.mem = (s.writeOperand (.ind sp .x) v).mem := by
  unfold drr at h; cases h; exact ⟨_, writeOperand_readOperand_mem _ _ _⟩

/-! ### Calls -/

theorem vectorCall_mem (i : Byte) : (s.vectorCall i).mem = (s.push16 s.p).mem := by simp [State.vectorCall]

/-- A vector call made stores the return address, one not made stores nothing. -/
theorem vectorCallIf_mem {c : Bool} {i : Byte} (h : vectorCallIf c i s = .next t) :
    t.mem = if c then (s.push16 s.p).mem else s.mem := by
  unfold vectorCallIf at h
  cases c with
  | false => cases h; rfl
  | true =>
    simp only [if_true] at h ⊢
    split at h
    · cases h; exact vectorCall_mem i
    · cases h

end Sys2Proof.Machine
end

