-- ==== Sys2Proof/Laws/PerInstr.lean ====
section
/-! SUPPORT. A fact about every instruction as syntax, one lemma per constructor. -/

namespace Sys2Proof.Laws

/-- The length rule of 30_encoding.md R75, applied to an instruction's own bytes, gives their number. -/
def EncodedLength.Statement (i : Instr) : Prop := instrLength (encode i) = (encode i).length

theorem EncodedLength.adcXl : EncodedLength.Statement (.adcXl) := rfl
theorem EncodedLength.adcIndX : EncodedLength.Statement (.adcIndX) := rfl
theorem EncodedLength.adcYl : EncodedLength.Statement (.adcYl) := rfl
theorem EncodedLength.adcIndY : EncodedLength.Statement (.adcIndY) := rfl
theorem EncodedLength.adcUl : EncodedLength.Statement (.adcUl) := rfl
theorem EncodedLength.adcIndU : EncodedLength.Statement (.adcIndU) := rfl
theorem EncodedLength.adcXh : EncodedLength.Statement (.adcXh) := rfl
theorem EncodedLength.adcYh : EncodedLength.Statement (.adcYh) := rfl
theorem EncodedLength.adcUh : EncodedLength.Statement (.adcUh) := rfl
theorem EncodedLength.adcAbs (a b : Byte) : EncodedLength.Statement (.adcAbs a b) := rfl
theorem EncodedLength.adcInd1X : EncodedLength.Statement (.adcInd1X) := rfl
theorem EncodedLength.adcInd1Y : EncodedLength.Statement (.adcInd1Y) := rfl
theorem EncodedLength.adcInd1U : EncodedLength.Statement (.adcInd1U) := rfl
theorem EncodedLength.adcAbs1 (a b : Byte) : EncodedLength.Statement (.adcAbs1 a b) := rfl
theorem EncodedLength.adiIndX (i : Byte) : EncodedLength.Statement (.adiIndX i) := rfl
theorem EncodedLength.adiIndY (i : Byte) : EncodedLength.Statement (.adiIndY i) := rfl
theorem EncodedLength.adiIndU (i : Byte) : EncodedLength.Statement (.adiIndU i) := rfl
theorem EncodedLength.adiA (i : Byte) : EncodedLength.Statement (.adiA i) := rfl
theorem EncodedLength.adiAbs (a b i : Byte) : EncodedLength.Statement (.adiAbs a b i) := rfl
theorem EncodedLength.adiInd1X (i : Byte) : EncodedLength.Statement (.adiInd1X i) := rfl
theorem EncodedLength.adiInd1Y (i : Byte) : EncodedLength.Statement (.adiInd1Y i) := rfl
theorem EncodedLength.adiInd1U (i : Byte) : EncodedLength.Statement (.adiInd1U i) := rfl
theorem EncodedLength.adiAbs1 (a b i : Byte) : EncodedLength.Statement (.adiAbs1 a b i) := rfl
theorem EncodedLength.dcaIndX : EncodedLength.Statement (.dcaIndX) := rfl
theorem EncodedLength.dcaIndY : EncodedLength.Statement (.dcaIndY) := rfl
theorem EncodedLength.dcaIndU : EncodedLength.Statement (.dcaIndU) := rfl
theorem EncodedLength.dcaInd1X : EncodedLength.Statement (.dcaInd1X) := rfl
theorem EncodedLength.dcaInd1Y : EncodedLength.Statement (.dcaInd1Y) := rfl
theorem EncodedLength.dcaInd1U : EncodedLength.Statement (.dcaInd1U) := rfl
theorem EncodedLength.adrX : EncodedLength.Statement (.adrX) := rfl
theorem EncodedLength.adrY : EncodedLength.Statement (.adrY) := rfl
theorem EncodedLength.adrU : EncodedLength.Statement (.adrU) := rfl
theorem EncodedLength.sbcXl : EncodedLength.Statement (.sbcXl) := rfl
theorem EncodedLength.sbcIndX : EncodedLength.Statement (.sbcIndX) := rfl
theorem EncodedLength.sbcYl : EncodedLength.Statement (.sbcYl) := rfl
theorem EncodedLength.sbcIndY : EncodedLength.Statement (.sbcIndY) := rfl
theorem EncodedLength.sbcUl : EncodedLength.Statement (.sbcUl) := rfl
theorem EncodedLength.sbcIndU : EncodedLength.Statement (.sbcIndU) := rfl
theorem EncodedLength.sbcXh : EncodedLength.Statement (.sbcXh) := rfl
theorem EncodedLength.sbcYh : EncodedLength.Statement (.sbcYh) := rfl
theorem EncodedLength.sbcUh : EncodedLength.Statement (.sbcUh) := rfl
theorem EncodedLength.sbcAbs (a b : Byte) : EncodedLength.Statement (.sbcAbs a b) := rfl
theorem EncodedLength.sbcInd1X : EncodedLength.Statement (.sbcInd1X) := rfl
theorem EncodedLength.sbcInd1Y : EncodedLength.Statement (.sbcInd1Y) := rfl
theorem EncodedLength.sbcInd1U : EncodedLength.Statement (.sbcInd1U) := rfl
theorem EncodedLength.sbcAbs1 (a b : Byte) : EncodedLength.Statement (.sbcAbs1 a b) := rfl
theorem EncodedLength.sbiA (i : Byte) : EncodedLength.Statement (.sbiA i) := rfl
theorem EncodedLength.dcsIndX : EncodedLength.Statement (.dcsIndX) := rfl
theorem EncodedLength.dcsIndY : EncodedLength.Statement (.dcsIndY) := rfl
theorem EncodedLength.dcsIndU : EncodedLength.Statement (.dcsIndU) := rfl
theorem EncodedLength.dcsInd1X : EncodedLength.Statement (.dcsInd1X) := rfl
theorem EncodedLength.dcsInd1Y : EncodedLength.Statement (.dcsInd1Y) := rfl
theorem EncodedLength.dcsInd1U : EncodedLength.Statement (.dcsInd1U) := rfl
theorem EncodedLength.andIndX : EncodedLength.Statement (.andIndX) := rfl
theorem EncodedLength.andIndY : EncodedLength.Statement (.andIndY) := rfl
theorem EncodedLength.andIndU : EncodedLength.Statement (.andIndU) := rfl
theorem EncodedLength.andAbs (a b : Byte) : EncodedLength.Statement (.andAbs a b) := rfl
theorem EncodedLength.andInd1X : EncodedLength.Statement (.andInd1X) := rfl
theorem EncodedLength.andInd1Y : EncodedLength.Statement (.andInd1Y) := rfl
theorem EncodedLength.andInd1U : EncodedLength.Statement (.andInd1U) := rfl
theorem EncodedLength.andAbs1 (a b : Byte) : EncodedLength.Statement (.andAbs1 a b) := rfl
theorem EncodedLength.aniIndX (i : Byte) : EncodedLength.Statement (.aniIndX i) := rfl
theorem EncodedLength.aniIndY (i : Byte) : EncodedLength.Statement (.aniIndY i) := rfl
theorem EncodedLength.aniIndU (i : Byte) : EncodedLength.Statement (.aniIndU i) := rfl
theorem EncodedLength.aniA (i : Byte) : EncodedLength.Statement (.aniA i) := rfl
theorem EncodedLength.aniAbs (a b i : Byte) : EncodedLength.Statement (.aniAbs a b i) := rfl
theorem EncodedLength.aniInd1X (i : Byte) : EncodedLength.Statement (.aniInd1X i) := rfl
theorem EncodedLength.aniInd1Y (i : Byte) : EncodedLength.Statement (.aniInd1Y i) := rfl
theorem EncodedLength.aniInd1U (i : Byte) : EncodedLength.Statement (.aniInd1U i) := rfl
theorem EncodedLength.aniAbs1 (a b i : Byte) : EncodedLength.Statement (.aniAbs1 a b i) := rfl
theorem EncodedLength.oraIndX : EncodedLength.Statement (.oraIndX) := rfl
theorem EncodedLength.oraIndY : EncodedLength.Statement (.oraIndY) := rfl
theorem EncodedLength.oraIndU : EncodedLength.Statement (.oraIndU) := rfl
theorem EncodedLength.oraAbs (a b : Byte) : EncodedLength.Statement (.oraAbs a b) := rfl
theorem EncodedLength.oraInd1X : EncodedLength.Statement (.oraInd1X) := rfl
theorem EncodedLength.oraInd1Y : EncodedLength.Statement (.oraInd1Y) := rfl
theorem EncodedLength.oraInd1U : EncodedLength.Statement (.oraInd1U) := rfl
theorem EncodedLength.oraAbs1 (a b : Byte) : EncodedLength.Statement (.oraAbs1 a b) := rfl
theorem EncodedLength.oriIndX (i : Byte) : EncodedLength.Statement (.oriIndX i) := rfl
theorem EncodedLength.oriIndY (i : Byte) : EncodedLength.Statement (.oriIndY i) := rfl
theorem EncodedLength.oriIndU (i : Byte) : EncodedLength.Statement (.oriIndU i) := rfl
theorem EncodedLength.oriA (i : Byte) : EncodedLength.Statement (.oriA i) := rfl
theorem EncodedLength.oriAbs (a b i : Byte) : EncodedLength.Statement (.oriAbs a b i) := rfl
theorem EncodedLength.oriInd1X (i : Byte) : EncodedLength.Statement (.oriInd1X i) := rfl
theorem EncodedLength.oriInd1Y (i : Byte) : EncodedLength.Statement (.oriInd1Y i) := rfl
theorem EncodedLength.oriInd1U (i : Byte) : EncodedLength.Statement (.oriInd1U i) := rfl
theorem EncodedLength.oriAbs1 (a b i : Byte) : EncodedLength.Statement (.oriAbs1 a b i) := rfl
theorem EncodedLength.eorIndX : EncodedLength.Statement (.eorIndX) := rfl
theorem EncodedLength.eorIndY : EncodedLength.Statement (.eorIndY) := rfl
theorem EncodedLength.eorIndU : EncodedLength.Statement (.eorIndU) := rfl
theorem EncodedLength.eorAbs (a b : Byte) : EncodedLength.Statement (.eorAbs a b) := rfl
theorem EncodedLength.eorInd1X : EncodedLength.Statement (.eorInd1X) := rfl
theorem EncodedLength.eorInd1Y : EncodedLength.Statement (.eorInd1Y) := rfl
theorem EncodedLength.eorInd1U : EncodedLength.Statement (.eorInd1U) := rfl
theorem EncodedLength.eorAbs1 (a b : Byte) : EncodedLength.Statement (.eorAbs1 a b) := rfl
theorem EncodedLength.eai (i : Byte) : EncodedLength.Statement (.eai i) := rfl
theorem EncodedLength.incXl : EncodedLength.Statement (.incXl) := rfl
theorem EncodedLength.incX : EncodedLength.Statement (.incX) := rfl
theorem EncodedLength.incYl : EncodedLength.Statement (.incYl) := rfl
theorem EncodedLength.incY : EncodedLength.Statement (.incY) := rfl
theorem EncodedLength.incUl : EncodedLength.Statement (.incUl) := rfl
theorem EncodedLength.incU : EncodedLength.Statement (.incU) := rfl
theorem EncodedLength.incA : EncodedLength.Statement (.incA) := rfl
theorem EncodedLength.incXh : EncodedLength.Statement (.incXh) := rfl
theorem EncodedLength.incYh : EncodedLength.Statement (.incYh) := rfl
theorem EncodedLength.incUh : EncodedLength.Statement (.incUh) := rfl
theorem EncodedLength.decXl : EncodedLength.Statement (.decXl) := rfl
theorem EncodedLength.decX : EncodedLength.Statement (.decX) := rfl
theorem EncodedLength.decYl : EncodedLength.Statement (.decYl) := rfl
theorem EncodedLength.decY : EncodedLength.Statement (.decY) := rfl
theorem EncodedLength.decUl : EncodedLength.Statement (.decUl) := rfl
theorem EncodedLength.decU : EncodedLength.Statement (.decU) := rfl
theorem EncodedLength.decA : EncodedLength.Statement (.decA) := rfl
theorem EncodedLength.decXh : EncodedLength.Statement (.decXh) := rfl
theorem EncodedLength.decYh : EncodedLength.Statement (.decYh) := rfl
theorem EncodedLength.decUh : EncodedLength.Statement (.decUh) := rfl
theorem EncodedLength.cpaXl : EncodedLength.Statement (.cpaXl) := rfl
theorem EncodedLength.cpaIndX : EncodedLength.Statement (.cpaIndX) := rfl
theorem EncodedLength.cpaYl : EncodedLength.Statement (.cpaYl) := rfl
theorem EncodedLength.cpaIndY : EncodedLength.Statement (.cpaIndY) := rfl
theorem EncodedLength.cpaUl : EncodedLength.Statement (.cpaUl) := rfl
theorem EncodedLength.cpaIndU : EncodedLength.Statement (.cpaIndU) := rfl
theorem EncodedLength.cpaXh : EncodedLength.Statement (.cpaXh) := rfl
theorem EncodedLength.cpaYh : EncodedLength.Statement (.cpaYh) := rfl
theorem EncodedLength.cpaUh : EncodedLength.Statement (.cpaUh) := rfl
theorem EncodedLength.cpaAbs (a b : Byte) : EncodedLength.Statement (.cpaAbs a b) := rfl
theorem EncodedLength.cpaInd1X : EncodedLength.Statement (.cpaInd1X) := rfl
theorem EncodedLength.cpaInd1Y : EncodedLength.Statement (.cpaInd1Y) := rfl
theorem EncodedLength.cpaInd1U : EncodedLength.Statement (.cpaInd1U) := rfl
theorem EncodedLength.cpaAbs1 (a b : Byte) : EncodedLength.Statement (.cpaAbs1 a b) := rfl
theorem EncodedLength.cpiXh (i : Byte) : EncodedLength.Statement (.cpiXh i) := rfl
theorem EncodedLength.cpiXl (i : Byte) : EncodedLength.Statement (.cpiXl i) := rfl
theorem EncodedLength.cpiYh (i : Byte) : EncodedLength.Statement (.cpiYh i) := rfl
theorem EncodedLength.cpiYl (i : Byte) : EncodedLength.Statement (.cpiYl i) := rfl
theorem EncodedLength.cpiUh (i : Byte) : EncodedLength.Statement (.cpiUh i) := rfl
theorem EncodedLength.cpiUl (i : Byte) : EncodedLength.Statement (.cpiUl i) := rfl
theorem EncodedLength.cpiA (i : Byte) : EncodedLength.Statement (.cpiA i) := rfl
theorem EncodedLength.bitIndX : EncodedLength.Statement (.bitIndX) := rfl
theorem EncodedLength.bitIndY : EncodedLength.Statement (.bitIndY) := rfl
theorem EncodedLength.bitIndU : EncodedLength.Statement (.bitIndU) := rfl
theorem EncodedLength.bitAbs (a b : Byte) : EncodedLength.Statement (.bitAbs a b) := rfl
theorem EncodedLength.bitInd1X : EncodedLength.Statement (.bitInd1X) := rfl
theorem EncodedLength.bitInd1Y : EncodedLength.Statement (.bitInd1Y) := rfl
theorem EncodedLength.bitInd1U : EncodedLength.Statement (.bitInd1U) := rfl
theorem EncodedLength.bitAbs1 (a b : Byte) : EncodedLength.Statement (.bitAbs1 a b) := rfl
theorem EncodedLength.biiIndX (i : Byte) : EncodedLength.Statement (.biiIndX i) := rfl
theorem EncodedLength.biiIndY (i : Byte) : EncodedLength.Statement (.biiIndY i) := rfl
theorem EncodedLength.biiIndU (i : Byte) : EncodedLength.Statement (.biiIndU i) := rfl
theorem EncodedLength.biiA (i : Byte) : EncodedLength.Statement (.biiA i) := rfl
theorem EncodedLength.biiAbs (a b i : Byte) : EncodedLength.Statement (.biiAbs a b i) := rfl
theorem EncodedLength.biiInd1X (i : Byte) : EncodedLength.Statement (.biiInd1X i) := rfl
theorem EncodedLength.biiInd1Y (i : Byte) : EncodedLength.Statement (.biiInd1Y i) := rfl
theorem EncodedLength.biiInd1U (i : Byte) : EncodedLength.Statement (.biiInd1U i) := rfl
theorem EncodedLength.biiAbs1 (a b i : Byte) : EncodedLength.Statement (.biiAbs1 a b i) := rfl
theorem EncodedLength.ldaXl : EncodedLength.Statement (.ldaXl) := rfl
theorem EncodedLength.ldaIndX : EncodedLength.Statement (.ldaIndX) := rfl
theorem EncodedLength.ldaYl : EncodedLength.Statement (.ldaYl) := rfl
theorem EncodedLength.ldaIndY : EncodedLength.Statement (.ldaIndY) := rfl
theorem EncodedLength.ldaUl : EncodedLength.Statement (.ldaUl) := rfl
theorem EncodedLength.ldaIndU : EncodedLength.Statement (.ldaIndU) := rfl
theorem EncodedLength.ldaXh : EncodedLength.Statement (.ldaXh) := rfl
theorem EncodedLength.ldaYh : EncodedLength.Statement (.ldaYh) := rfl
theorem EncodedLength.ldaUh : EncodedLength.Statement (.ldaUh) := rfl
theorem EncodedLength.ldaAbs (a b : Byte) : EncodedLength.Statement (.ldaAbs a b) := rfl
theorem EncodedLength.ldaInd1X : EncodedLength.Statement (.ldaInd1X) := rfl
theorem EncodedLength.ldaInd1Y : EncodedLength.Statement (.ldaInd1Y) := rfl
theorem EncodedLength.ldaInd1U : EncodedLength.Statement (.ldaInd1U) := rfl
theorem EncodedLength.ldaAbs1 (a b : Byte) : EncodedLength.Statement (.ldaAbs1 a b) := rfl
theorem EncodedLength.ldeX : EncodedLength.Statement (.ldeX) := rfl
theorem EncodedLength.ldeY : EncodedLength.Statement (.ldeY) := rfl
theorem EncodedLength.ldeU : EncodedLength.Statement (.ldeU) := rfl
theorem EncodedLength.linX : EncodedLength.Statement (.linX) := rfl
theorem EncodedLength.linY : EncodedLength.Statement (.linY) := rfl
theorem EncodedLength.linU : EncodedLength.Statement (.linU) := rfl
theorem EncodedLength.ldiXh (i : Byte) : EncodedLength.Statement (.ldiXh i) := rfl
theorem EncodedLength.ldiXl (i : Byte) : EncodedLength.Statement (.ldiXl i) := rfl
theorem EncodedLength.ldiYh (i : Byte) : EncodedLength.Statement (.ldiYh i) := rfl
theorem EncodedLength.ldiYl (i : Byte) : EncodedLength.Statement (.ldiYl i) := rfl
theorem EncodedLength.ldiUh (i : Byte) : EncodedLength.Statement (.ldiUh i) := rfl
theorem EncodedLength.ldiUl (i : Byte) : EncodedLength.Statement (.ldiUl i) := rfl
theorem EncodedLength.ldiS (i j : Byte) : EncodedLength.Statement (.ldiS i j) := rfl
theorem EncodedLength.ldiA (i : Byte) : EncodedLength.Statement (.ldiA i) := rfl
theorem EncodedLength.ldxX : EncodedLength.Statement (.ldxX) := rfl
theorem EncodedLength.ldxY : EncodedLength.Statement (.ldxY) := rfl
theorem EncodedLength.ldxU : EncodedLength.Statement (.ldxU) := rfl
theorem EncodedLength.ldxS : EncodedLength.Statement (.ldxS) := rfl
theorem EncodedLength.ldxP : EncodedLength.Statement (.ldxP) := rfl
theorem EncodedLength.staXh : EncodedLength.Statement (.staXh) := rfl
theorem EncodedLength.staXl : EncodedLength.Statement (.staXl) := rfl
theorem EncodedLength.staIndX : EncodedLength.Statement (.staIndX) := rfl
theorem EncodedLength.staYh : EncodedLength.Statement (.staYh) := rfl
theorem EncodedLength.staYl : EncodedLength.Statement (.staYl) := rfl
theorem EncodedLength.staIndY : EncodedLength.Statement (.staIndY) := rfl
theorem EncodedLength.staUh : EncodedLength.Statement (.staUh) := rfl
theorem EncodedLength.staUl : EncodedLength.Statement (.staUl) := rfl
theorem EncodedLength.staIndU : EncodedLength.Statement (.staIndU) := rfl
theorem EncodedLength.staAbs (a b : Byte) : EncodedLength.Statement (.staAbs a b) := rfl
theorem EncodedLength.staInd1X : EncodedLength.Statement (.staInd1X) := rfl
theorem EncodedLength.staInd1Y : EncodedLength.Statement (.staInd1Y) := rfl
theorem EncodedLength.staInd1U : EncodedLength.Statement (.staInd1U) := rfl
theorem EncodedLength.staAbs1 (a b : Byte) : EncodedLength.Statement (.staAbs1 a b) := rfl
theorem EncodedLength.sdeX : EncodedLength.Statement (.sdeX) := rfl
theorem EncodedLength.sdeY : EncodedLength.Statement (.sdeY) := rfl
theorem EncodedLength.sdeU : EncodedLength.Statement (.sdeU) := rfl
theorem EncodedLength.sinX : EncodedLength.Statement (.sinX) := rfl
theorem EncodedLength.sinY : EncodedLength.Statement (.sinY) := rfl
theorem EncodedLength.sinU : EncodedLength.Statement (.sinU) := rfl
theorem EncodedLength.stxX : EncodedLength.Statement (.stxX) := rfl
theorem EncodedLength.stxS : EncodedLength.Statement (.stxS) := rfl
theorem EncodedLength.stxY : EncodedLength.Statement (.stxY) := rfl
theorem EncodedLength.stxP : EncodedLength.Statement (.stxP) := rfl
theorem EncodedLength.stxU : EncodedLength.Statement (.stxU) := rfl
theorem EncodedLength.pshX : EncodedLength.Statement (.pshX) := rfl
theorem EncodedLength.pshY : EncodedLength.Statement (.pshY) := rfl
theorem EncodedLength.pshU : EncodedLength.Statement (.pshU) := rfl
theorem EncodedLength.pshA : EncodedLength.Statement (.pshA) := rfl
theorem EncodedLength.popX : EncodedLength.Statement (.popX) := rfl
theorem EncodedLength.popY : EncodedLength.Statement (.popY) := rfl
theorem EncodedLength.popU : EncodedLength.Statement (.popU) := rfl
theorem EncodedLength.popA : EncodedLength.Statement (.popA) := rfl
theorem EncodedLength.att : EncodedLength.Statement (.att) := rfl
theorem EncodedLength.tta : EncodedLength.Statement (.tta) := rfl
theorem EncodedLength.tin : EncodedLength.Statement (.tin) := rfl
theorem EncodedLength.cin : EncodedLength.Statement (.cin) := rfl
theorem EncodedLength.rol : EncodedLength.Statement (.rol) := rfl
theorem EncodedLength.ror : EncodedLength.Statement (.ror) := rfl
theorem EncodedLength.shl : EncodedLength.Statement (.shl) := rfl
theorem EncodedLength.shr : EncodedLength.Statement (.shr) := rfl
theorem EncodedLength.drlIndX : EncodedLength.Statement (.drlIndX) := rfl
theorem EncodedLength.drlInd1X : EncodedLength.Statement (.drlInd1X) := rfl
theorem EncodedLength.drrIndX : EncodedLength.Statement (.drrIndX) := rfl
theorem EncodedLength.drrInd1X : EncodedLength.Statement (.drrInd1X) := rfl
theorem EncodedLength.aex : EncodedLength.Statement (.aex) := rfl
theorem EncodedLength.secC : EncodedLength.Statement (.secC) := rfl
theorem EncodedLength.recC : EncodedLength.Statement (.recC) := rfl
theorem EncodedLength.cdv : EncodedLength.Statement (.cdv) := rfl
theorem EncodedLength.atp : EncodedLength.Statement (.atp) := rfl
theorem EncodedLength.spu : EncodedLength.Statement (.spu) := rfl
theorem EncodedLength.rpu : EncodedLength.Statement (.rpu) := rfl
theorem EncodedLength.spv : EncodedLength.Statement (.spv) := rfl
theorem EncodedLength.rpv : EncodedLength.Statement (.rpv) := rfl
theorem EncodedLength.sdp : EncodedLength.Statement (.sdp) := rfl
theorem EncodedLength.rdp : EncodedLength.Statement (.rdp) := rfl
theorem EncodedLength.ita : EncodedLength.Statement (.ita) := rfl
theorem EncodedLength.sie : EncodedLength.Statement (.sie) := rfl
theorem EncodedLength.rie : EncodedLength.Statement (.rie) := rfl
theorem EncodedLength.am0 : EncodedLength.Statement (.am0) := rfl
theorem EncodedLength.am1 : EncodedLength.Statement (.am1) := rfl
theorem EncodedLength.nop : EncodedLength.Statement (.nop) := rfl
theorem EncodedLength.hlt : EncodedLength.Statement (.hlt) := rfl
theorem EncodedLength.off : EncodedLength.Statement (.off) := rfl
theorem EncodedLength.jmp (i j : Byte) : EncodedLength.Statement (.jmp i j) := rfl
theorem EncodedLength.bchFwd (i : Byte) : EncodedLength.Statement (.bchFwd i) := rfl
theorem EncodedLength.bchBack (i : Byte) : EncodedLength.Statement (.bchBack i) := rfl
theorem EncodedLength.bcsFwd (i : Byte) : EncodedLength.Statement (.bcsFwd i) := rfl
theorem EncodedLength.bcsBack (i : Byte) : EncodedLength.Statement (.bcsBack i) := rfl
theorem EncodedLength.bcrFwd (i : Byte) : EncodedLength.Statement (.bcrFwd i) := rfl
theorem EncodedLength.bcrBack (i : Byte) : EncodedLength.Statement (.bcrBack i) := rfl
theorem EncodedLength.bhsFwd (i : Byte) : EncodedLength.Statement (.bhsFwd i) := rfl
theorem EncodedLength.bhsBack (i : Byte) : EncodedLength.Statement (.bhsBack i) := rfl
theorem EncodedLength.bhrFwd (i : Byte) : EncodedLength.Statement (.bhrFwd i) := rfl
theorem EncodedLength.bhrBack (i : Byte) : EncodedLength.Statement (.bhrBack i) := rfl
theorem EncodedLength.bzsFwd (i : Byte) : EncodedLength.Statement (.bzsFwd i) := rfl
theorem EncodedLength.bzsBack (i : Byte) : EncodedLength.Statement (.bzsBack i) := rfl
theorem EncodedLength.bzrFwd (i : Byte) : EncodedLength.Statement (.bzrFwd i) := rfl
theorem EncodedLength.bzrBack (i : Byte) : EncodedLength.Statement (.bzrBack i) := rfl
theorem EncodedLength.bvsFwd (i : Byte) : EncodedLength.Statement (.bvsFwd i) := rfl
theorem EncodedLength.bvsBack (i : Byte) : EncodedLength.Statement (.bvsBack i) := rfl
theorem EncodedLength.bvrFwd (i : Byte) : EncodedLength.Statement (.bvrFwd i) := rfl
theorem EncodedLength.bvrBack (i : Byte) : EncodedLength.Statement (.bvrBack i) := rfl
theorem EncodedLength.lop (i : Byte) : EncodedLength.Statement (.lop i) := rfl
theorem EncodedLength.sjp (i j : Byte) : EncodedLength.Statement (.sjp i j) := rfl
theorem EncodedLength.vejC0 : EncodedLength.Statement (.vejC0) := rfl
theorem EncodedLength.vejC2 : EncodedLength.Statement (.vejC2) := rfl
theorem EncodedLength.vejC4 : EncodedLength.Statement (.vejC4) := rfl
theorem EncodedLength.vejC6 : EncodedLength.Statement (.vejC6) := rfl
theorem EncodedLength.vejC8 : EncodedLength.Statement (.vejC8) := rfl
theorem EncodedLength.vejCA : EncodedLength.Statement (.vejCA) := rfl
theorem EncodedLength.vejCC : EncodedLength.Statement (.vejCC) := rfl
theorem EncodedLength.vejCE : EncodedLength.Statement (.vejCE) := rfl
theorem EncodedLength.vejD0 : EncodedLength.Statement (.vejD0) := rfl
theorem EncodedLength.vejD2 : EncodedLength.Statement (.vejD2) := rfl
theorem EncodedLength.vejD4 : EncodedLength.Statement (.vejD4) := rfl
theorem EncodedLength.vejD6 : EncodedLength.Statement (.vejD6) := rfl
theorem EncodedLength.vejD8 : EncodedLength.Statement (.vejD8) := rfl
theorem EncodedLength.vejDA : EncodedLength.Statement (.vejDA) := rfl
theorem EncodedLength.vejDC : EncodedLength.Statement (.vejDC) := rfl
theorem EncodedLength.vejDE : EncodedLength.Statement (.vejDE) := rfl
theorem EncodedLength.vejE0 : EncodedLength.Statement (.vejE0) := rfl
theorem EncodedLength.vejE2 : EncodedLength.Statement (.vejE2) := rfl
theorem EncodedLength.vejE4 : EncodedLength.Statement (.vejE4) := rfl
theorem EncodedLength.vejE6 : EncodedLength.Statement (.vejE6) := rfl
theorem EncodedLength.vejE8 : EncodedLength.Statement (.vejE8) := rfl
theorem EncodedLength.vejEA : EncodedLength.Statement (.vejEA) := rfl
theorem EncodedLength.vejEC : EncodedLength.Statement (.vejEC) := rfl
theorem EncodedLength.vejEE : EncodedLength.Statement (.vejEE) := rfl
theorem EncodedLength.vejF0 : EncodedLength.Statement (.vejF0) := rfl
theorem EncodedLength.vejF2 : EncodedLength.Statement (.vejF2) := rfl
theorem EncodedLength.vejF4 : EncodedLength.Statement (.vejF4) := rfl
theorem EncodedLength.vejF6 : EncodedLength.Statement (.vejF6) := rfl
theorem EncodedLength.vmj (i : Byte) : EncodedLength.Statement (.vmj i) := rfl
theorem EncodedLength.vcs (i : Byte) : EncodedLength.Statement (.vcs i) := rfl
theorem EncodedLength.vcr (i : Byte) : EncodedLength.Statement (.vcr i) := rfl
theorem EncodedLength.vhs (i : Byte) : EncodedLength.Statement (.vhs i) := rfl
theorem EncodedLength.vhr (i : Byte) : EncodedLength.Statement (.vhr i) := rfl
theorem EncodedLength.vzs (i : Byte) : EncodedLength.Statement (.vzs i) := rfl
theorem EncodedLength.vzr (i : Byte) : EncodedLength.Statement (.vzr i) := rfl
theorem EncodedLength.vvs (i : Byte) : EncodedLength.Statement (.vvs i) := rfl
theorem EncodedLength.rtn : EncodedLength.Statement (.rtn) := rfl
theorem EncodedLength.rti : EncodedLength.Statement (.rti) := rfl

end Sys2Proof.Laws
end

