-- ==== Sys2Proof/Laws/Turns.lean ====
section
/-! SUPPORT. What taking a turn changes: the script, the timer's turn, the dividers and the count of draws alone. -/

namespace Sys2Proof.Machine

variable (s : State)

/-- A turn taken: the script loses its first move; with no script the timer comes one CPU step nearer, or has its turn and
a new free number of CPU steps before the next. -/
theorem nextTurn_cases :
    (∃ m rest, s.script = m :: rest ∧ s.nextTurn = (m, { s with script := rest })) ∨
    (∃ n, s.script = [] ∧ s.untilTimer = n + 1 ∧ s.nextTurn = (.cpu, { s with untilTimer := n })) ∨
    (s.script = [] ∧ s.untilTimer = 0 ∧
      s.nextTurn = (.timer, { s with untilTimer := Config.cpuStepsToTimer s.draws, draws := s.draws + 1 })) := by
  cases hs : s.script with
  | cons m rest => exact .inl ⟨m, rest, rfl, by simp only [State.nextTurn, hs]⟩
  | nil =>
    cases hu : s.untilTimer with
    | succ n => exact .inr (.inl ⟨n, rfl, rfl, by simp only [State.nextTurn, hs, hu]⟩)
    | zero => exact .inr (.inr ⟨rfl, rfl, by simp only [State.nextTurn, hs, hu]⟩)

theorem nextTurn_parts : ∃ c n d, s.nextTurn.2 = { s with script := c, untilTimer := n, draws := d } := by
  obtain ⟨m, rest, -, h⟩ | ⟨n, -, -, h⟩ | ⟨-, -, h⟩ := nextTurn_cases s <;> rw [h] <;> exact ⟨_, _, _, rfl⟩

theorem popMove_parts : ∃ c n d v i, s.popMove =
    { s with script := c, untilTimer := n, draws := d, divider := v, iocs := i } := by
  unfold State.popMove
  obtain ⟨_, _, _, e⟩ := nextTurn_parts s
  obtain ⟨-, h⟩ | ⟨-, -, h⟩ := passTime_cases s.nextTurn.2 s.nextTurn.1 <;> rw [h, e] <;> exact ⟨_, _, _, _, _, rfl⟩

/-- In a turn of the CPU or the timer every divider runs on. -/
theorem popMove_runs (h : s.nextTurn.1 = .cpu ∨ s.nextTurn.1 = .timer) :
    s.divider < s.popMove.divider ∧ ∀ u, ∃ free, s.popMove.ioc u = (s.ioc u).runDivider free := by
  unfold State.popMove
  obtain ⟨_, _, _, e⟩ := nextTurn_parts s
  obtain ⟨-, r⟩ | ⟨hc, ht, -⟩ := passTime_cases s.nextTurn.2 s.nextTurn.1
  · rw [r, e]
    exact ⟨by simp only [runDividers_divider]; omega, fun u => runDividers_ioc _ u⟩
  · exact (h.elim hc ht).elim

/-- In every other turn the controllers and the CPU's divider are as they were. -/
theorem popMove_event (hc : s.nextTurn.1 ≠ .cpu) (ht : s.nextTurn.1 ≠ .timer) :
    s.popMove.iocs = s.iocs ∧ s.popMove.divider = s.divider := by
  unfold State.popMove
  obtain ⟨_, _, _, e⟩ := nextTurn_parts s
  obtain ⟨h, -⟩ | ⟨-, -, h⟩ := passTime_cases s.nextTurn.2 s.nextTurn.1
  · exact (h.elim hc ht).elim
  · rw [h, e]; exact ⟨rfl, rfl⟩

@[simp] theorem popMove_a  : (s.popMove).a = s.a := by
  obtain ⟨_, _, _, _, _, h⟩ := popMove_parts s; rw [h]
@[simp] theorem popMove_xl  : (s.popMove).xl = s.xl := by
  obtain ⟨_, _, _, _, _, h⟩ := popMove_parts s; rw [h]
@[simp] theorem popMove_xh  : (s.popMove).xh = s.xh := by
  obtain ⟨_, _, _, _, _, h⟩ := popMove_parts s; rw [h]
@[simp] theorem popMove_yl  : (s.popMove).yl = s.yl := by
  obtain ⟨_, _, _, _, _, h⟩ := popMove_parts s; rw [h]
@[simp] theorem popMove_yh  : (s.popMove).yh = s.yh := by
  obtain ⟨_, _, _, _, _, h⟩ := popMove_parts s; rw [h]
@[simp] theorem popMove_ul  : (s.popMove).ul = s.ul := by
  obtain ⟨_, _, _, _, _, h⟩ := popMove_parts s; rw [h]
@[simp] theorem popMove_uh  : (s.popMove).uh = s.uh := by
  obtain ⟨_, _, _, _, _, h⟩ := popMove_parts s; rw [h]
@[simp] theorem popMove_p  : (s.popMove).p = s.p := by
  obtain ⟨_, _, _, _, _, h⟩ := popMove_parts s; rw [h]
@[simp] theorem popMove_sp  : (s.popMove).sp = s.sp := by
  obtain ⟨_, _, _, _, _, h⟩ := popMove_parts s; rw [h]
@[simp] theorem popMove_c  : (s.popMove).c = s.c := by
  obtain ⟨_, _, _, _, _, h⟩ := popMove_parts s; rw [h]
@[simp] theorem popMove_ie  : (s.popMove).ie = s.ie := by
  obtain ⟨_, _, _, _, _, h⟩ := popMove_parts s; rw [h]
@[simp] theorem popMove_z  : (s.popMove).z = s.z := by
  obtain ⟨_, _, _, _, _, h⟩ := popMove_parts s; rw [h]
@[simp] theorem popMove_v  : (s.popMove).v = s.v := by
  obtain ⟨_, _, _, _, _, h⟩ := popMove_parts s; rw [h]
@[simp] theorem popMove_h  : (s.popMove).h = s.h := by
  obtain ⟨_, _, _, _, _, h⟩ := popMove_parts s; rw [h]
@[simp] theorem popMove_tm  : (s.popMove).tm = s.tm := by
  obtain ⟨_, _, _, _, _, h⟩ := popMove_parts s; rw [h]
@[simp] theorem popMove_wa  : (s.popMove).wa = s.wa := by
  obtain ⟨_, _, _, _, _, h⟩ := popMove_parts s; rw [h]
@[simp] theorem popMove_pu  : (s.popMove).pu = s.pu := by
  obtain ⟨_, _, _, _, _, h⟩ := popMove_parts s; rw [h]
@[simp] theorem popMove_pv  : (s.popMove).pv = s.pv := by
  obtain ⟨_, _, _, _, _, h⟩ := popMove_parts s; rw [h]
@[simp] theorem popMove_disp  : (s.popMove).disp = s.disp := by
  obtain ⟨_, _, _, _, _, h⟩ := popMove_parts s; rw [h]
@[simp] theorem popMove_bf  : (s.popMove).bf = s.bf := by
  obtain ⟨_, _, _, _, _, h⟩ := popMove_parts s; rw [h]
@[simp] theorem popMove_ir0  : (s.popMove).ir0 = s.ir0 := by
  obtain ⟨_, _, _, _, _, h⟩ := popMove_parts s; rw [h]
@[simp] theorem popMove_ir1  : (s.popMove).ir1 = s.ir1 := by
  obtain ⟨_, _, _, _, _, h⟩ := popMove_parts s; rw [h]
@[simp] theorem popMove_ir2  : (s.popMove).ir2 = s.ir2 := by
  obtain ⟨_, _, _, _, _, h⟩ := popMove_parts s; rw [h]
@[simp] theorem popMove_halted  : (s.popMove).halted = s.halted := by
  obtain ⟨_, _, _, _, _, h⟩ := popMove_parts s; rw [h]
@[simp] theorem popMove_inPins  : (s.popMove).inPins = s.inPins := by
  obtain ⟨_, _, _, _, _, h⟩ := popMove_parts s; rw [h]
@[simp] theorem popMove_mem  : (s.popMove).mem = s.mem := by
  obtain ⟨_, _, _, _, _, h⟩ := popMove_parts s; rw [h]
@[simp] theorem popMove_board  : (s.popMove).board = s.board := by
  obtain ⟨_, _, _, _, _, h⟩ := popMove_parts s; rw [h]
@[simp] theorem popMove_out  : (s.popMove).out = s.out := by
  obtain ⟨_, _, _, _, _, h⟩ := popMove_parts s; rw [h]

/-- Taking a turn changes nothing of a controller but its divider. -/
theorem popMove_ioc (u : IocUnit) : ∃ n, s.popMove.ioc u = { s.ioc u with divider := n } := by
  by_cases h : s.nextTurn.1 = .cpu ∨ s.nextTurn.1 = .timer
  · obtain ⟨_, e⟩ := (popMove_runs s h).2 u; exact ⟨_, e⟩
  · have e := (popMove_event s (fun c => h (.inl c)) (fun t => h (.inr t))).1
    exact ⟨(s.ioc u).divider, by simp only [State.ioc, e]⟩

@[simp] theorem popMove_miLine : s.popMove.miLine = s.miLine := by
  have h (u : IocUnit) : (s.popMove.ioc u).int = (s.ioc u).int := by
    obtain ⟨_, e⟩ := popMove_ioc s u; rw [e]; rfl
  simp only [State.miLine, popMove_board, h]

/-- Unless the timer has its turn with no script, what is left of script and CPU steps before the timer is one less. -/
theorem popMove_left (h : s.nextTurn.1 ≠ .timer) :
    s.popMove.script.length + s.popMove.untilTimer + 1 = s.script.length + s.untilTimer := by
  unfold State.popMove
  rw [passTime_script, passTime_untilTimer]
  obtain ⟨m, rest, hs, he⟩ | ⟨n, hs, hu, he⟩ | ⟨-, -, he⟩ := nextTurn_cases s <;> rw [he] at h ⊢
  · simp only [hs, List.length_cons]; omega
  · simp only [hs, hu]; omega
  · exact absurd rfl h

/-- What a step that answers can be: a CPU step or the move of another agent, on the machine with the turn taken. -/
theorem step_cases {s t : State} (h : step s = .next t) :
    (s.nextTurn.1 = .cpu ∧ s.popMove.cpuStep = .next t) ∨
    (s.nextTurn.1 ≠ .cpu ∧ s.popMove.hostMove s.nextTurn.1 = some t) := by
  unfold step State.move at h
  split at h
  · exact .inl ⟨‹_›, h⟩
  · rename_i hne
    split at h
    · rename_i u hu; cases h; exact .inr ⟨hne, hu⟩
    · cases h

/-- What a CPU step that answers can be: nothing while the clock is stopped, an interrupt entry, what a halt does, or one
instruction. -/
theorem cpuStep_cases {s t : State} (h : s.cpuStep = .next t) :
    (s.wa = true ∧ t = s) ∨
    (∃ n, s.wa = false ∧ s.pendingInterrupt = some n ∧ t = s.takeInterrupt n) ∨
    (s.wa = false ∧ s.pendingInterrupt = none ∧ s.halted = true ∧ t = s.stayHalted) ∨
    (s.wa = false ∧ s.pendingInterrupt = none ∧ s.halted = false ∧
      ∃ i, s.fetchInstr.1 = .ok i ∧ exec i s.fetchInstr.2 = .next t) := by
  unfold State.cpuStep at h
  cases hw : s.wa with
  | true => rw [hw] at h; cases h; exact .inl ⟨rfl, rfl⟩
  | false =>
    cases hp : s.pendingInterrupt with
    | some n => simp only [hw, hp] at h; cases h; exact .inr (.inl ⟨n, rfl, rfl, rfl⟩)
    | none =>
      cases hh : s.halted with
      | true => simp only [hw, hp, hh] at h; cases h; exact .inr (.inr (.inl ⟨rfl, rfl, rfl, rfl⟩))
      | false =>
        simp only [hw, hp, hh, Bool.false_eq_true, if_false] at h
        refine .inr (.inr (.inr ⟨rfl, rfl, rfl, ?_⟩))
        unfold State.runInstr at h; dsimp only at h
        split at h
        · exact ⟨_, ‹_›, h⟩
        · cases h
        · cases h

end Sys2Proof.Machine
end

