-- ==== Sys2Proof/Tests/Slice0.lean ====
section
/-! SUPPORT. Tests on fixed values, their expected results from the spec's worked examples and tables, and for every
statement with hypotheses a state and operands that meet them together. -/

namespace Sys2Proof.Tests

open Sys2Proof.Machine

/-! ### WellFormed: an ill-formed term for each check is refused (47_subroutine.md R222) -/

theorem test_wf_refuses_odd : (Instr.vmj 0x01#8).wellFormed = false := rfl
theorem test_wf_refuses_above : (Instr.vmj 0xF8#8).wellFormed = false := rfl
theorem test_wf_refuses_conditional :
    [Instr.vcs 0xF7#8, .vcr 0xF8#8, .vhs 0xFF#8, .vhr 0x01#8, .vzs 0xFE#8, .vzr 0xFA#8, .vvs 0xFC#8].map
      Instr.wellFormed = List.replicate 7 false := rfl
theorem test_wf_accepts_bounds :
    [Instr.vmj 0x00#8, .vmj 0xF6#8, .vcs 0x10#8, .bchBack 0xFF#8, .ldiA 0xF7#8].map Instr.wellFormed =
      List.replicate 5 true := rfl

/-! ### Decoding: every instruction, from the word its rule and the opcode maps R68 and R69 list -/

/-- Words and instructions of 40_arith_logic.md R100 to R114. -/
def words_arith_1 : List (List Byte × Instr) :=
  [ ([0x02#8], .adcXl), ([0x03#8], .adcIndX), ([0x12#8], .adcYl), ([0x13#8], .adcIndY), ([0x22#8], .adcUl),
    ([0x23#8], .adcIndU), ([0x82#8], .adcXh), ([0x92#8], .adcYh), ([0xA2#8], .adcUh),
    ([0xA3#8, 0x12#8, 0x34#8], .adcAbs 0x12#8 0x34#8), ([0xFD#8, 0x03#8], .adcInd1X), ([0xFD#8, 0x13#8], .adcInd1Y),
    ([0xFD#8, 0x23#8], .adcInd1U), ([0xFD#8, 0xA3#8, 0x12#8, 0x34#8], .adcAbs1 0x12#8 0x34#8),
    ([0x4F#8, 0x12#8], .adiIndX 0x12#8), ([0x5F#8, 0x12#8], .adiIndY 0x12#8), ([0x6F#8, 0x12#8], .adiIndU 0x12#8),
    ([0xB3#8, 0x12#8], .adiA 0x12#8), ([0xEF#8, 0x12#8, 0x34#8, 0x56#8], .adiAbs 0x12#8 0x34#8 0x56#8),
    ([0xFD#8, 0x4F#8, 0x12#8], .adiInd1X 0x12#8), ([0xFD#8, 0x5F#8, 0x12#8], .adiInd1Y 0x12#8),
    ([0xFD#8, 0x6F#8, 0x12#8], .adiInd1U 0x12#8),
    ([0xFD#8, 0xEF#8, 0x12#8, 0x34#8, 0x56#8], .adiAbs1 0x12#8 0x34#8 0x56#8), ([0x8C#8], .dcaIndX),
    ([0x9C#8], .dcaIndY), ([0xAC#8], .dcaIndU), ([0xFD#8, 0x8C#8], .dcaInd1X), ([0xFD#8, 0x9C#8], .dcaInd1Y),
    ([0xFD#8, 0xAC#8], .dcaInd1U), ([0xFD#8, 0xCA#8], .adrX), ([0xFD#8, 0xDA#8], .adrY), ([0xFD#8, 0xEA#8], .adrU),
    ([0x00#8], .sbcXl), ([0x01#8], .sbcIndX), ([0x10#8], .sbcYl), ([0x11#8], .sbcIndY), ([0x20#8], .sbcUl),
    ([0x21#8], .sbcIndU), ([0x80#8], .sbcXh), ([0x90#8], .sbcYh), ([0xA0#8], .sbcUh),
    ([0xA1#8, 0x12#8, 0x34#8], .sbcAbs 0x12#8 0x34#8), ([0xFD#8, 0x01#8], .sbcInd1X), ([0xFD#8, 0x11#8], .sbcInd1Y),
    ([0xFD#8, 0x21#8], .sbcInd1U), ([0xFD#8, 0xA1#8, 0x12#8, 0x34#8], .sbcAbs1 0x12#8 0x34#8),
    ([0xB1#8, 0x12#8], .sbiA 0x12#8), ([0x0C#8], .dcsIndX), ([0x1C#8], .dcsIndY), ([0x2C#8], .dcsIndU),
    ([0xFD#8, 0x0C#8], .dcsInd1X), ([0xFD#8, 0x1C#8], .dcsInd1Y), ([0xFD#8, 0x2C#8], .dcsInd1U), ([0x09#8], .andIndX),
    ([0x19#8], .andIndY), ([0x29#8], .andIndU), ([0xA9#8, 0x12#8, 0x34#8], .andAbs 0x12#8 0x34#8),
    ([0xFD#8, 0x09#8], .andInd1X), ([0xFD#8, 0x19#8], .andInd1Y), ([0xFD#8, 0x29#8], .andInd1U) ]

theorem test_decode_arith_1 : words_arith_1.map (fun w => decode w.1) = words_arith_1.map (fun w => .ok (w.2, [])) := rfl

/-- Words and instructions of 40_arith_logic.md R100 to R114. -/
def words_arith_2 : List (List Byte × Instr) :=
  [ ([0xFD#8, 0xA9#8, 0x12#8, 0x34#8], .andAbs1 0x12#8 0x34#8), ([0x49#8, 0x12#8], .aniIndX 0x12#8),
    ([0x59#8, 0x12#8], .aniIndY 0x12#8), ([0x69#8, 0x12#8], .aniIndU 0x12#8), ([0xB9#8, 0x12#8], .aniA 0x12#8),
    ([0xE9#8, 0x12#8, 0x34#8, 0x56#8], .aniAbs 0x12#8 0x34#8 0x56#8), ([0xFD#8, 0x49#8, 0x12#8], .aniInd1X 0x12#8),
    ([0xFD#8, 0x59#8, 0x12#8], .aniInd1Y 0x12#8), ([0xFD#8, 0x69#8, 0x12#8], .aniInd1U 0x12#8),
    ([0xFD#8, 0xE9#8, 0x12#8, 0x34#8, 0x56#8], .aniAbs1 0x12#8 0x34#8 0x56#8), ([0x0B#8], .oraIndX),
    ([0x1B#8], .oraIndY), ([0x2B#8], .oraIndU), ([0xAB#8, 0x12#8, 0x34#8], .oraAbs 0x12#8 0x34#8),
    ([0xFD#8, 0x0B#8], .oraInd1X), ([0xFD#8, 0x1B#8], .oraInd1Y), ([0xFD#8, 0x2B#8], .oraInd1U),
    ([0xFD#8, 0xAB#8, 0x12#8, 0x34#8], .oraAbs1 0x12#8 0x34#8), ([0x4B#8, 0x12#8], .oriIndX 0x12#8),
    ([0x5B#8, 0x12#8], .oriIndY 0x12#8), ([0x6B#8, 0x12#8], .oriIndU 0x12#8), ([0xBB#8, 0x12#8], .oriA 0x12#8),
    ([0xEB#8, 0x12#8, 0x34#8, 0x56#8], .oriAbs 0x12#8 0x34#8 0x56#8), ([0xFD#8, 0x4B#8, 0x12#8], .oriInd1X 0x12#8),
    ([0xFD#8, 0x5B#8, 0x12#8], .oriInd1Y 0x12#8), ([0xFD#8, 0x6B#8, 0x12#8], .oriInd1U 0x12#8),
    ([0xFD#8, 0xEB#8, 0x12#8, 0x34#8, 0x56#8], .oriAbs1 0x12#8 0x34#8 0x56#8), ([0x0D#8], .eorIndX),
    ([0x1D#8], .eorIndY), ([0x2D#8], .eorIndU), ([0xAD#8, 0x12#8, 0x34#8], .eorAbs 0x12#8 0x34#8),
    ([0xFD#8, 0x0D#8], .eorInd1X), ([0xFD#8, 0x1D#8], .eorInd1Y), ([0xFD#8, 0x2D#8], .eorInd1U),
    ([0xFD#8, 0xAD#8, 0x12#8, 0x34#8], .eorAbs1 0x12#8 0x34#8), ([0xBD#8, 0x12#8], .eai 0x12#8), ([0x40#8], .incXl),
    ([0x44#8], .incX), ([0x50#8], .incYl), ([0x54#8], .incY), ([0x60#8], .incUl), ([0x64#8], .incU), ([0xDD#8], .incA),
    ([0xFD#8, 0x40#8], .incXh), ([0xFD#8, 0x50#8], .incYh), ([0xFD#8, 0x60#8], .incUh), ([0x42#8], .decXl),
    ([0x46#8], .decX), ([0x52#8], .decYl), ([0x56#8], .decY), ([0x62#8], .decUl), ([0x66#8], .decU), ([0xDF#8], .decA),
    ([0xFD#8, 0x42#8], .decXh), ([0xFD#8, 0x52#8], .decYh), ([0xFD#8, 0x62#8], .decUh) ]

theorem test_decode_arith_2 : words_arith_2.map (fun w => decode w.1) = words_arith_2.map (fun w => .ok (w.2, [])) := rfl

/-- Words and instructions of 41_compare_bittest.md R120 to R123. -/
def words_compare : List (List Byte × Instr) :=
  [ ([0x06#8], .cpaXl), ([0x07#8], .cpaIndX), ([0x16#8], .cpaYl), ([0x17#8], .cpaIndY), ([0x26#8], .cpaUl),
    ([0x27#8], .cpaIndU), ([0x86#8], .cpaXh), ([0x96#8], .cpaYh), ([0xA6#8], .cpaUh),
    ([0xA7#8, 0x12#8, 0x34#8], .cpaAbs 0x12#8 0x34#8), ([0xFD#8, 0x07#8], .cpaInd1X), ([0xFD#8, 0x17#8], .cpaInd1Y),
    ([0xFD#8, 0x27#8], .cpaInd1U), ([0xFD#8, 0xA7#8, 0x12#8, 0x34#8], .cpaAbs1 0x12#8 0x34#8),
    ([0x4C#8, 0x12#8], .cpiXh 0x12#8), ([0x4E#8, 0x12#8], .cpiXl 0x12#8), ([0x5C#8, 0x12#8], .cpiYh 0x12#8),
    ([0x5E#8, 0x12#8], .cpiYl 0x12#8), ([0x6C#8, 0x12#8], .cpiUh 0x12#8), ([0x6E#8, 0x12#8], .cpiUl 0x12#8),
    ([0xB7#8, 0x12#8], .cpiA 0x12#8), ([0x0F#8], .bitIndX), ([0x1F#8], .bitIndY), ([0x2F#8], .bitIndU),
    ([0xAF#8, 0x12#8, 0x34#8], .bitAbs 0x12#8 0x34#8), ([0xFD#8, 0x0F#8], .bitInd1X), ([0xFD#8, 0x1F#8], .bitInd1Y),
    ([0xFD#8, 0x2F#8], .bitInd1U), ([0xFD#8, 0xAF#8, 0x12#8, 0x34#8], .bitAbs1 0x12#8 0x34#8),
    ([0x4D#8, 0x12#8], .biiIndX 0x12#8), ([0x5D#8, 0x12#8], .biiIndY 0x12#8), ([0x6D#8, 0x12#8], .biiIndU 0x12#8),
    ([0xBF#8, 0x12#8], .biiA 0x12#8), ([0xED#8, 0x12#8, 0x34#8, 0x56#8], .biiAbs 0x12#8 0x34#8 0x56#8),
    ([0xFD#8, 0x4D#8, 0x12#8], .biiInd1X 0x12#8), ([0xFD#8, 0x5D#8, 0x12#8], .biiInd1Y 0x12#8),
    ([0xFD#8, 0x6D#8, 0x12#8], .biiInd1U 0x12#8),
    ([0xFD#8, 0xED#8, 0x12#8, 0x34#8, 0x56#8], .biiAbs1 0x12#8 0x34#8 0x56#8) ]

theorem test_decode_compare : words_compare.map (fun w => decode w.1) = words_compare.map (fun w => .ok (w.2, [])) := rfl

/-- Words and instructions of 42_transfer.md R130 to R142. -/
def words_transfer_1 : List (List Byte × Instr) :=
  [ ([0x04#8], .ldaXl), ([0x05#8], .ldaIndX), ([0x14#8], .ldaYl), ([0x15#8], .ldaIndY), ([0x24#8], .ldaUl),
    ([0x25#8], .ldaIndU), ([0x84#8], .ldaXh), ([0x94#8], .ldaYh), ([0xA4#8], .ldaUh),
    ([0xA5#8, 0x12#8, 0x34#8], .ldaAbs 0x12#8 0x34#8), ([0xFD#8, 0x05#8], .ldaInd1X), ([0xFD#8, 0x15#8], .ldaInd1Y),
    ([0xFD#8, 0x25#8], .ldaInd1U), ([0xFD#8, 0xA5#8, 0x12#8, 0x34#8], .ldaAbs1 0x12#8 0x34#8), ([0x47#8], .ldeX),
    ([0x57#8], .ldeY), ([0x67#8], .ldeU), ([0x45#8], .linX), ([0x55#8], .linY), ([0x65#8], .linU),
    ([0x48#8, 0x12#8], .ldiXh 0x12#8), ([0x4A#8, 0x12#8], .ldiXl 0x12#8), ([0x58#8, 0x12#8], .ldiYh 0x12#8),
    ([0x5A#8, 0x12#8], .ldiYl 0x12#8), ([0x68#8, 0x12#8], .ldiUh 0x12#8), ([0x6A#8, 0x12#8], .ldiUl 0x12#8),
    ([0xAA#8, 0x12#8, 0x34#8], .ldiS 0x12#8 0x34#8), ([0xB5#8, 0x12#8], .ldiA 0x12#8), ([0xFD#8, 0x08#8], .ldxX),
    ([0xFD#8, 0x18#8], .ldxY), ([0xFD#8, 0x28#8], .ldxU), ([0xFD#8, 0x48#8], .ldxS), ([0xFD#8, 0x58#8], .ldxP),
    ([0x08#8], .staXh), ([0x0A#8], .staXl), ([0x0E#8], .staIndX), ([0x18#8], .staYh), ([0x1A#8], .staYl),
    ([0x1E#8], .staIndY), ([0x28#8], .staUh), ([0x2A#8], .staUl), ([0x2E#8], .staIndU),
    ([0xAE#8, 0x12#8, 0x34#8], .staAbs 0x12#8 0x34#8), ([0xFD#8, 0x0E#8], .staInd1X), ([0xFD#8, 0x1E#8], .staInd1Y),
    ([0xFD#8, 0x2E#8], .staInd1U), ([0xFD#8, 0xAE#8, 0x12#8, 0x34#8], .staAbs1 0x12#8 0x34#8), ([0x43#8], .sdeX),
    ([0x53#8], .sdeY), ([0x63#8], .sdeU), ([0x41#8], .sinX), ([0x51#8], .sinY), ([0x61#8], .sinU),
    ([0xFD#8, 0x4A#8], .stxX), ([0xFD#8, 0x4E#8], .stxS), ([0xFD#8, 0x5A#8], .stxY), ([0xFD#8, 0x5E#8], .stxP),
    ([0xFD#8, 0x6A#8], .stxU), ([0xFD#8, 0x88#8], .pshX), ([0xFD#8, 0x98#8], .pshY) ]

theorem test_decode_transfer_1 : words_transfer_1.map (fun w => decode w.1) = words_transfer_1.map (fun w => .ok (w.2, [])) := rfl

/-- Words and instructions of 42_transfer.md R130 to R142. -/
def words_transfer_2 : List (List Byte × Instr) :=
  [ ([0xFD#8, 0xA8#8], .pshU), ([0xFD#8, 0xC8#8], .pshA), ([0xFD#8, 0x0A#8], .popX), ([0xFD#8, 0x1A#8], .popY),
    ([0xFD#8, 0x2A#8], .popU), ([0xFD#8, 0x8A#8], .popA), ([0xFD#8, 0xEC#8], .att), ([0xFD#8, 0xAA#8], .tta) ]

theorem test_decode_transfer_2 : words_transfer_2.map (fun w => decode w.1) = words_transfer_2.map (fun w => .ok (w.2, [])) := rfl

/-- Words and instructions of 43_block.md R150, R151. -/
def words_block : List (List Byte × Instr) :=
  [ ([0xF5#8], .tin), ([0xF7#8], .cin) ]

theorem test_decode_block : words_block.map (fun w => decode w.1) = words_block.map (fun w => .ok (w.2, [])) := rfl

/-- Words and instructions of 44_rotate_shift.md R160 to R166. -/
def words_rotate : List (List Byte × Instr) :=
  [ ([0xDB#8], .rol), ([0xD1#8], .ror), ([0xD9#8], .shl), ([0xD5#8], .shr), ([0xD7#8], .drlIndX),
    ([0xFD#8, 0xD7#8], .drlInd1X), ([0xD3#8], .drrIndX), ([0xFD#8, 0xD3#8], .drrInd1X), ([0xF1#8], .aex) ]

theorem test_decode_rotate : words_rotate.map (fun w => decode w.1) = words_rotate.map (fun w => .ok (w.2, [])) := rfl

/-- Words and instructions of 45_cpu_control.md R170 to R187. -/
def words_control : List (List Byte × Instr) :=
  [ ([0xFB#8], .secC), ([0xF9#8], .recC), ([0xFD#8, 0x8E#8], .cdv), ([0xFD#8, 0xCC#8], .atp), ([0xE1#8], .spu),
    ([0xE3#8], .rpu), ([0xA8#8], .spv), ([0xB8#8], .rpv), ([0xFD#8, 0xC1#8], .sdp), ([0xFD#8, 0xC0#8], .rdp),
    ([0xFD#8, 0xBA#8], .ita), ([0xFD#8, 0x81#8], .sie), ([0xFD#8, 0xBE#8], .rie), ([0xFD#8, 0xCE#8], .am0),
    ([0xFD#8, 0xDE#8], .am1), ([0x38#8], .nop), ([0xFD#8, 0xB1#8], .hlt), ([0xFD#8, 0x4C#8], .off) ]

theorem test_decode_control : words_control.map (fun w => decode w.1) = words_control.map (fun w => .ok (w.2, [])) := rfl

/-- Words and instructions of 46_jump.md R200 to R210. -/
def words_jump : List (List Byte × Instr) :=
  [ ([0xBA#8, 0x12#8, 0x34#8], .jmp 0x12#8 0x34#8), ([0x8E#8, 0x12#8], .bchFwd 0x12#8),
    ([0x9E#8, 0x12#8], .bchBack 0x12#8), ([0x83#8, 0x12#8], .bcsFwd 0x12#8), ([0x93#8, 0x12#8], .bcsBack 0x12#8),
    ([0x81#8, 0x12#8], .bcrFwd 0x12#8), ([0x91#8, 0x12#8], .bcrBack 0x12#8), ([0x87#8, 0x12#8], .bhsFwd 0x12#8),
    ([0x97#8, 0x12#8], .bhsBack 0x12#8), ([0x85#8, 0x12#8], .bhrFwd 0x12#8), ([0x95#8, 0x12#8], .bhrBack 0x12#8),
    ([0x8B#8, 0x12#8], .bzsFwd 0x12#8), ([0x9B#8, 0x12#8], .bzsBack 0x12#8), ([0x89#8, 0x12#8], .bzrFwd 0x12#8),
    ([0x99#8, 0x12#8], .bzrBack 0x12#8), ([0x8F#8, 0x12#8], .bvsFwd 0x12#8), ([0x9F#8, 0x12#8], .bvsBack 0x12#8),
    ([0x8D#8, 0x12#8], .bvrFwd 0x12#8), ([0x9D#8, 0x12#8], .bvrBack 0x12#8), ([0x88#8, 0x12#8], .lop 0x12#8) ]

theorem test_decode_jump : words_jump.map (fun w => decode w.1) = words_jump.map (fun w => .ok (w.2, [])) := rfl

/-- Words and instructions of 47_subroutine.md R220 to R229. -/
def words_call : List (List Byte × Instr) :=
  [ ([0xBE#8, 0x12#8, 0x34#8], .sjp 0x12#8 0x34#8), ([0xC0#8], .vejC0), ([0xC2#8], .vejC2), ([0xC4#8], .vejC4),
    ([0xC6#8], .vejC6), ([0xC8#8], .vejC8), ([0xCA#8], .vejCA), ([0xCC#8], .vejCC), ([0xCE#8], .vejCE),
    ([0xD0#8], .vejD0), ([0xD2#8], .vejD2), ([0xD4#8], .vejD4), ([0xD6#8], .vejD6), ([0xD8#8], .vejD8),
    ([0xDA#8], .vejDA), ([0xDC#8], .vejDC), ([0xDE#8], .vejDE), ([0xE0#8], .vejE0), ([0xE2#8], .vejE2),
    ([0xE4#8], .vejE4), ([0xE6#8], .vejE6), ([0xE8#8], .vejE8), ([0xEA#8], .vejEA), ([0xEC#8], .vejEC),
    ([0xEE#8], .vejEE), ([0xF0#8], .vejF0), ([0xF2#8], .vejF2), ([0xF4#8], .vejF4), ([0xF6#8], .vejF6),
    ([0xCD#8, 0x96#8], .vmj 0x96#8), ([0xC3#8, 0x96#8], .vcs 0x96#8), ([0xC1#8, 0x96#8], .vcr 0x96#8),
    ([0xC7#8, 0x96#8], .vhs 0x96#8), ([0xC5#8, 0x96#8], .vhr 0x96#8), ([0xCB#8, 0x96#8], .vzs 0x96#8),
    ([0xC9#8, 0x96#8], .vzr 0x96#8), ([0xCF#8, 0x96#8], .vvs 0x96#8) ]

theorem test_decode_call : words_call.map (fun w => decode w.1) = words_call.map (fun w => .ok (w.2, [])) := rfl

/-- Words and instructions of 48_return.md R240, R241. -/
def words_ret : List (List Byte × Instr) :=
  [ ([0x9A#8], .rtn), ([0x8A#8], .rti) ]

theorem test_decode_ret : words_ret.map (fun w => decode w.1) = words_ret.map (fun w => .ok (w.2, [])) := rfl

/-! ### Encoding limits and the table's words -/

theorem test_decode_rejects_fd_fd : decode [0xFD#8, 0xFD#8] = .error (.illegalOpcode true 0xFD#8) := rfl
theorem test_decode_rejects_register_three : decode [0x32#8, 0x00#8] = .error (.illegalOpcode false 0x32#8) := rfl
theorem test_decode_truncated : decode [0xBA#8, 0x41#8] = .error .truncated := rfl
theorem test_decode_leaves_rest : decode [0x88#8, 0x05#8, 0xF5#8] = .ok (.lop 0x05#8, [0xF5#8]) := rfl

/-- The table's numbering puts the first byte of a row in the highest bits (log 21); a word numbered with the first byte in
the lowest bits is read too. -/
theorem test_table_words :
    decodeTableWord 8 0x02 = some .adcXl ∧ decodeTableWord 16 0xFD40 = some .incXh ∧
    decodeTableWord 24 0xBA4100 = some (.jmp 0x41#8 0x00#8) ∧
    decodeTableWord 40 0xFDEF470020 = some (.adiAbs1 0x47#8 0x00#8 0x20#8) ∧
    decodeTableWord 16 0x40FD = some .incXh ∧ decodeTableWord 8 0x30 = none := ⟨rfl, rfl, rfl, rfl, rfl, rfl⟩

/-! ### One step of one instruction -/

/-- A field of the next state. -/
def after {α : Type} (r : Result) (f : State → α) : Option α :=
  match r with
  | .next t => some (f t)
  | _ => none

/-- Memory with the given cells. -/
def cells (l : List (Nat × Byte)) : Memory := l.foldl (fun m e => m.write e.1 e.2) []

/-- The machine after reset with S = 4700H and P after an instruction at 4000H. -/
def base : State := { State.reset with sp := 0x4700#16, p := 0x4002#16 }

def flags (t : State) : Bool × Bool × Bool × Bool := (t.c, t.h, t.v, t.z)

-- R100's example
theorem test_adc_xl : after (exec .adcXl { base with a := 0x02#8, xl := 0x33#8 }) (fun t => (t.a, flags t)) =
    some (0x35#8, false, false, false, false) := rfl
-- R100's corner case: the carry-in is the flag before
theorem test_adc_carry_in : after (exec .adcYh { base with a := 0xFF#8, yh := 0x00#8, c := true })
    (fun t => (t.a, flags t)) = some (0x00#8, true, true, false, true) := rfl
-- R101: memory form without carry-in, accumulator form with it
theorem test_adi_mem : after (exec (.adiIndX 0x20#8) { base with xh := 0x4F#8, c := true, mem := cells [(0x4F00, 0x33#8)] })
    (fun t => (t.mem, t.a, t.c)) = some ([(0x4F00, 0x53#8)], 0x00#8, false) := rfl
theorem test_adi_a : after (exec (.adiA 0x36#8) { base with a := 0x04#8, c := true }) (fun t => t.a) = some 0x3B#8 := rfl
-- R102's table, rows 1 and 4
theorem test_dca_row1 : after (exec .dcaIndY { base with a := 0x35#8, yh := 0x47#8, mem := cells [(0x4700, 0x27#8)] })
    (fun t => (t.a, t.c, t.h)) = some (0x62#8, false, true) := rfl
theorem test_dca_row4 :
    after (exec .dcaIndY { base with a := 0x35#8, c := true, yh := 0x47#8, mem := cells [(0x4700, 0x67#8)] })
    (fun t => (t.a, t.c, t.h)) = some (0x03#8, true, true) := rfl
-- R103's example
theorem test_adr : after (exec .adrX { base with xh := 0x20#8, xl := 0x30#8, a := 0xF0#8 })
    (fun t => (t.xh, t.xl, flags t)) = some (0x21#8, 0x20#8, true, false, false, false) := rfl
-- R104's example
theorem test_sbc_xl : after (exec .sbcXl { base with a := 0x38#8, xl := 0x21#8, c := true })
    (fun t => (t.a, flags t)) = some (0x17#8, true, true, false, false) := rfl
-- R105's example
theorem test_sbi : after (exec (.sbiA 0x07#8) { base with a := 0x23#8, c := true })
    (fun t => (t.a, flags t)) = some (0x1C#8, true, false, false, false) := rfl
-- R106's table, row 3
theorem test_dcs_row3 :
    after (exec .dcsIndX { base with a := 0x23#8, c := true, xh := 0x47#8, mem := cells [(0x4700, 0x54#8)] })
    (fun t => (t.a, t.c, t.h)) = some (0x69#8, false, false) := rfl
-- R111's example
theorem test_eor : after (exec .eorIndX { base with a := 0x36#8, xh := 0x47#8, mem := cells [(0x4700, 0x6D#8)] })
    (fun t => (t.a, t.z)) = some (0x5B#8, false) := rfl
-- R108's example: bit 4 of 788AH cleared
theorem test_ani_abs : after (exec (.aniAbs 0x78#8 0x8A#8 0xEF#8) { base with mem := cells [(0x788A, 0x1F#8)] })
    (fun t => t.mem) = some [(0x788A, 0x0F#8)] := rfl
-- R113, R114's corner cases and the DEC X example
theorem test_inc_wraps : after (exec .incUh { base with uh := 0xFF#8 }) (fun t => (t.uh, flags t)) =
    some (0x00#8, true, true, false, true) := rfl
theorem test_dec_zero : after (exec .decA { base with a := 0x00#8, z := true }) (fun t => (t.a, flags t)) =
    some (0xFF#8, false, false, false, false) := rfl
theorem test_dec_pair : after (exec .decX { base with xh := 0x11#8, xl := 0x00#8, z := true })
    (fun t => (t.xh, t.xl, t.z)) = some (0x10#8, 0xFF#8, true) := rfl
-- R120's corner case
theorem test_cpa_overflow : after (exec .cpaUl { base with a := 0x80#8, ul := 0x01#8 }) (fun t => (t.a, flags t)) =
    some (0x80#8, true, false, true, false) := rfl
-- R121: the left side is the register
theorem test_cpi_uh : after (exec (.cpiUh 0x77#8) { base with uh := 0x76#8 }) (fun t => (t.c, t.z)) =
    some (false, false) := rfl
-- R122's example
theorem test_bit : after (exec .bitIndX { base with a := 0x80#8, xh := 0x4F#8, mem := cells [(0x4F00, 0x0F#8)] })
    (fun t => (t.z, t.a)) = some (true, 0x80#8) := rfl
-- R131's example
theorem test_lde : after (exec .ldeY { base with yh := 0x20#8, yl := 0x2A#8, mem := cells [(0x202A, 0x58#8)] })
    (fun t => (t.a, t.pair .y, t.z)) = some (0x58#8, 0x2029#16, false) := rfl
-- R133, R134: LDX P gives the address after the instruction
theorem test_ldi_s : after (exec (.ldiS 0x78#8 0x4F#8) base) (fun t => t.sp) = some 0x784F#16 := rfl
theorem test_ldx_p : after (exec .ldxP base) (fun t => t.pair .x) = some 0x4002#16 := rfl
-- R135: the two spaces are different memories (70_reset_and_hazards.md R411, 11)
theorem test_sta_me1 : after (exec .staInd1X { base with a := 0x3F#8, xh := 0x47#8 }) (fun t => t.mem) =
    some [(65536 + 0x4700, 0x3F#8)] := rfl
-- R137's example
theorem test_sin : after (exec .sinY { base with a := 0x3F#8, yh := 0x47#8 }) (fun t => (t.mem, t.pair .y)) =
    some ([(0x4700, 0x3F#8)], 0x4701#16) := rfl
-- R138: STX P jumps through X
theorem test_stx_p : after (exec .stxP { base with xh := 0x41#8 }) (fun t => t.p) = some 0x4100#16 := rfl
-- R139, R140's examples
theorem test_psh_x : after (exec .pshX { base with xh := 0x20#8, xl := 0x30#8, sp := 0x46FF#16 })
    (fun t => (t.mem, t.sp)) = some ([(0x46FE, 0x20#8), (0x46FF, 0x30#8)], 0x46FD#16) := rfl
theorem test_pop_a : after (exec .popA { base with sp := 0x46FF#16, mem := cells [(0x4700, 0x3F#8)] })
    (fun t => (t.a, t.sp, t.z)) = some (0x3F#8, 0x4700#16, false) := rfl
-- R141, R142's examples
theorem test_att : after (exec .att { base with a := 0xFF#8 }) (fun t => (t.t, t.a)) = some (0x1F#8, 0xFF#8) := rfl
theorem test_tta : after (exec .tta { base with z := true, ie := true, c := true }) (fun t => (t.a, t.z)) =
    some (0x07#8, false) := rfl
-- R150's and R151's examples
theorem test_tin : after (exec .tin { base with xh := 0x47#8, yh := 0x48#8, mem := cells [(0x4700, 0x33#8)] })
    (fun t => (t.mem.read 0x4800, t.pair .x, t.pair .y)) = some (0x33#8, 0x4701#16, 0x4801#16) := rfl
theorem test_cin : after (exec .cin { base with a := 0x0D#8, xh := 0x7B#8, mem := cells [(0x7B00, 0x0D#8)] })
    (fun t => (flags t, t.pair .x)) = some ((true, true, false, true), 0x7B01#16) := rfl
-- R160 to R163: A and C only; H, V, Z are free
theorem test_rol : after (exec .rol { base with a := 0x4C#8, c := true }) (fun t => (t.a, t.c)) =
    some (0x99#8, false) := rfl
theorem test_ror : after (exec .ror { base with a := 0xC9#8 }) (fun t => (t.a, t.c)) = some (0x64#8, true) := rfl
theorem test_shl : after (exec .shl { base with a := 0x9D#8 }) (fun t => (t.a, t.c)) = some (0x3A#8, true) := rfl
theorem test_shr : after (exec .shr { base with a := 0x93#8 }) (fun t => (t.a, t.c)) = some (0x49#8, true) := rfl
-- R164, R165, R166
theorem test_drl : after (exec .drlIndX { base with a := 0x6F#8, xh := 0x47#8, mem := cells [(0x4700, 0xB3#8)] })
    (fun t => (t.a, t.mem)) = some (0xB3#8, [(0x4700, 0x36#8)]) := rfl
theorem test_drr : after (exec .drrIndX { base with a := 0xC1#8, xh := 0x47#8, mem := cells [(0x4700, 0x42#8)] })
    (fun t => (t.a, t.mem)) = some (0x42#8, [(0x4700, 0x14#8)]) := rfl
theorem test_aex : after (exec .aex { base with a := 0xCA#8 }) (fun t => t.a) = some 0xAC#8 := rfl
-- R173, R180, R184
theorem test_atp : after (exec .atp { base with a := 0x5A#8, xh := 0x12#8 }) (fun t => t.out) =
    some [.portOut 0x5A#8 0x1200#16] := rfl
theorem test_ita : after (exec .ita { base with inPins := 0x00#8 }) (fun t => (t.a, t.z)) = some (0x00#8, true) := rfl
theorem test_am1 : after (exec .am1 { base with a := 0xFE#8 }) (fun t => t.tm) = some 0x1FE#9 := rfl
-- R201, R204, R209, R210's examples
theorem test_bch : after (exec (.bchFwd 0x05#8) base) (fun t => t.p) = some 0x4007#16 := rfl
theorem test_bhs_back : after (exec (.bhsBack 0x04#8) { base with h := true }) (fun t => t.p) = some 0x3FFE#16 := rfl
theorem test_bvr_not_taken : after (exec (.bvrFwd 0x10#8) { base with v := true }) (fun t => t.p) =
    some 0x4002#16 := rfl
theorem test_lop_loops : after (exec (.lop 0x05#8) { base with ul := 0x05#8, p := 0x4005#16 })
    (fun t => (t.ul, t.p)) = some (0x04#8, 0x4000#16) := rfl
theorem test_lop_ends : after (exec (.lop 0x05#8) { base with ul := 0x00#8 }) (fun t => (t.ul, t.p, t.c)) =
    some (0xFF#8, 0x4002#16, false) := rfl
-- R220, R221, R222, R224's examples
theorem test_sjp : after (exec (.sjp 0xE0#8 0x00#8) { base with p := 0x4003#16 }) (fun t => (t.mem, t.sp, t.p)) =
    some ([(0x46FF, 0x40#8), (0x4700, 0x03#8)], 0x46FE#16, 0xE000#16) := rfl
theorem test_vej : after (exec .vejC4 { base with p := 0x4001#16, z := true, mem := cells [(0xFFC4, 0x45#8)] })
    (fun t => (t.p, t.z, t.mem.read 0x4700, t.mem.read 0x46FF)) = some (0x4500#16, false, 0x01#8, 0x40#8) := rfl
theorem test_vcr : after (exec (.vcr 0x10#8) { base with p := 0x5002#16, sp := 0x4FF0#16,
                                                         mem := cells [(0xFF10, 0x12#8), (0xFF11, 0x34#8)] })
    (fun t => (t.p, t.sp, t.mem.read 0x4FF0, t.mem.read 0x4FEF)) =
    some (0x1234#16, 0x4FEE#16, 0x02#8, 0x50#8) := rfl
theorem test_vmj_reserved : exec (.vmj 0xF7#8) base = .fault (.reservedOperand 0xF7#8) := rfl
theorem test_vzs_not_made : exec (.vzs 0xF7#8) base = .next base := rfl
-- R240, R241's examples
theorem test_rtn : after (exec .rtn { base with sp := 0x46FE#16, mem := cells [(0x46FF, 0x40#8), (0x4700, 0x03#8)] })
    (fun t => (t.p, t.sp)) = some (0x4003#16, 0x4700#16) := rfl
theorem test_rti : after (exec .rti { base with sp := 0x46FD#16,
                                                mem := cells [(0x46FE, 0x40#8), (0x46FF, 0x02#8), (0x4700, 0x13#8)] })
    (fun t => (t.p, t.sp, t.t)) = some (0x4002#16, 0x4700#16, 0x13#8) := rfl

/-! ### One step of the machine -/

-- the host's placing of a table word: LDI A,77H as the first instruction after reset
theorem test_with_fetch_word : after (step (State.reset.withFetchWord 16 0xB577)) (fun t => (t.a, t.p)) =
    some (0x77#8, 0x0002#16) := rfl
theorem test_with_fetch_word_ioc :
    (State.reset.withFetchWord 40 0xFDEF470020).fetchInstr.1 = .ok (.adiAbs1 0x47#8 0x00#8 0x20#8) := rfl
-- R14: an instruction across FFFFH, 0000H
theorem test_fetch_wraps : after (step { base with p := 0xFFFF#16, mem := cells [(0xFFFF, 0xB5#8), (0x0000, 0x5A#8)] })
    (fun t => (t.a, t.p)) = some (0x5A#8, 0x0001#16) := rfl
-- R310's figure: S = 1005H gives T at 1005H, PL at 1004H, PH at 1003H, S = 1002H; R47's example vectors
theorem test_nmi : after (step { base with sp := 0x1005#16, ir0 := true, c := true,
                                           mem := cells [(0xFFFC, 0xE2#8), (0xFFFD, 0x2B#8)] })
    (fun t => (t.p, t.sp, t.mem.read 0x1005, t.mem.read 0x1004, t.mem.read 0x1003, t.ir0)) =
    some (0xE22B#16, 0x1002#16, 0x01#8, 0x02#8, 0x40#8, false) := rfl
theorem test_timer_interrupt : after (step { base with ie := true, ir1 := true, halted := true,
                                                       mem := cells [(0xFFFA, 0xE2#8), (0xFFFB, 0x2C#8)] })
    (fun t => (t.p, t.ie, t.ir1, t.halted, t.mem.read 0x4700)) = some (0xE22C#16, false, false, false, 0x02#8) := rfl
theorem test_mi : after (step { base with ie := true, ir2 := true, mem := cells [(0xFFF8, 0xE1#8), (0xFFF9, 0x71#8)] })
    (fun t => (t.p, t.ir2)) = some (0xE171#16, false) := rfl
theorem test_reset : after (step { base with script := [.reset], ie := true, ir0 := true, pu := true, halted := true,
                                             mem := cells [(0xFFFE, 0xE0#8)] })
    (fun t => (t.p, t.ie, t.ir0, t.pu, t.halted, t.sp)) = some (0xE000#16, false, false, false, false, 0x4700#16) := rfl
-- R320's table: count 1 is 1FEH, 510 is 0FFH
theorem test_timer_reaches : after (step { base with script := [.timer], tm := 0x1FE#9 }) (fun t => (t.tm, t.ir1)) =
    some (0x1FF#9, true) := rfl
theorem test_timer_leaves : after (step { base with script := [.timer], tm := 0x1FF#9 }) (fun t => (t.tm, t.ir1)) =
    some (0x0FF#9, false) := rfl
-- R336: the ON key of the PC-1500 raises IF1 and INT sets IR2
theorem test_on_key : after (step { base with
    script := [.ioc .builtIn (.pins 0x00#8 0x80#8 false)], iocs := { base.iocs with builtIn := { Ioc.cleared with msk := 0x2#4 } } })
    (fun t => ((t.ioc .builtIn).if1, t.ir2)) = some (true, true) := rfl
-- R331: a controller that the board does not wire to MI makes no request
theorem test_unwired_int : after (step { base with
    script := [.ioc .ce150 (.pins 0x00#8 0x80#8 false)], iocs := { base.iocs with ce150 := { Ioc.cleared with msk := 0x2#4 } } })
    (fun t => ((t.ioc .ce150).if1, t.ir2)) = some (true, false) := rfl
-- R333: ATP latches A into OPC where the board wires the clocks
theorem test_atp_latch : after (exec .atp { base with a := 0x5A#8, board := { base.board with phiLatch := [.builtIn, .ce158] } })
    (fun t => [(t.ioc .builtIn).opc, (t.ioc .ce150).opc, (t.ioc .ce158).opc]) = some [0x5A#8, 0x00#8, 0x5A#8] := rfl
-- R336: MSK written while IF1 is set raises INT
theorem test_write_msk_raises_int : (State.busWrite { base with
    board := { base.board with map := pc1500Map {} }, iocs := { base.iocs with builtIn := { Ioc.cleared with if1 := true } } }
    .me1 0xF00A#16 0x02#8).ir2 = true := rfl
-- R320, R8: with no script the timer has its turn after the CPU steps left
theorem test_timer_turn : after (step { base with untilTimer := 0, tm := 0x1FE#9 }) (fun t => (t.tm, t.ir1, t.p)) =
    some (0x1FF#9, true, 0x4002#16) := rfl

/-! ### The hypotheses of the statements are met: forms -/

theorem test_witness_forms :
    (adcForms 0x47#8 0x01#8).length = 14 ∧ (adiForms 0x47#8 0x01#8 0x20#8).length = 8 ∧ dcaForms.length = 6 ∧
    adrForms.length = 3 ∧ (sbcForms 0x47#8 0x01#8).length = 14 ∧ dcsForms.length = 6 ∧
    (andForms 0x47#8 0x01#8).length = 8 ∧ (oraForms 0x47#8 0x01#8).length = 8 ∧ (eorForms 0x47#8 0x01#8).length = 8 ∧
    (aniForms 0x47#8 0x01#8 0x20#8).length = 9 ∧ (oriForms 0x47#8 0x01#8 0x20#8).length = 9 ∧
    incForms.length = 7 ∧ decForms.length = 7 ∧ incPairForms.length = 3 ∧ decPairForms.length = 3 ∧
    (cpaForms 0x47#8 0x01#8).length = 14 ∧ (cpiForms 0x20#8).length = 7 ∧ (bitForms 0x47#8 0x01#8).length = 8 ∧
    (biiForms 0x47#8 0x01#8 0x20#8).length = 9 ∧ (ldaForms 0x47#8 0x01#8).length = 14 ∧ (ldiForms 0x20#8).length = 6 ∧
    ldeForms.length = 3 ∧ linForms.length = 3 ∧ (staForms 0x47#8 0x01#8).length = 14 ∧ sdeForms.length = 3 ∧
    sinForms.length = 3 ∧ ldxForms.length = 5 ∧ stxForms.length = 5 ∧ pshForms.length = 3 ∧ popForms.length = 3 ∧
    drlForms.length = 2 ∧ drrForms.length = 2 ∧ (bchForms 0x05#8).length = 2 ∧ (branchForms 0x05#8).length = 16 ∧
    vejForms.length = 28 ∧ (vectorIfForms 0x96#8).length = 7 := by
  refine ⟨?_, ?_, ?_, ?_, ?_, ?_, ?_, ?_, ?_, ?_, ?_, ?_, ?_, ?_, ?_, ?_, ?_, ?_, ?_, ?_, ?_, ?_, ?_, ?_, ?_, ?_, ?_,
    ?_, ?_, ?_, ?_, ?_, ?_, ?_, ?_, ?_⟩ <;> rfl

/-! ### The hypotheses of the statements are met: decoding, memory, arithmetic -/

/-- InstructionLength: the shortest and the longest instruction, with bytes left over. -/
theorem test_witness_InstructionLength :
    decode [0x38#8, 0x00#8] = .ok (.nop, [0x00#8]) ∧
    decode [0xFD#8, 0xE9#8, 0x47#8, 0x01#8, 0xF0#8, 0x9A#8] = .ok (.aniAbs1 0x47#8 0x01#8 0xF0#8, [0x9A#8]) :=
  ⟨rfl, rfl⟩

/-- UnlistedOpcodesRejected: 30H and FFH of the first page, FDH and 00H of the second, each fetched by a step. -/
theorem test_witness_UnlistedOpcodesRejected :
    decode [0x30#8] = .error (.illegalOpcode false 0x30#8) ∧ decode [0xFF#8] = .error (.illegalOpcode false 0xFF#8) ∧
    decode [0xFD#8, 0xFD#8] = .error (.illegalOpcode true 0xFD#8) ∧
    decode [0xFD#8, 0x00#8] = .error (.illegalOpcode true 0x00#8) ∧
    base.cpuTurn ∧ base.wa = false ∧ base.pendingInterrupt = none ∧ base.halted = false ∧
    State.bytesAt { base with mem := cells [(0x4002, 0x30#8)] } 0x4002#16 [0x30#8] ∧
    State.bytesAt { base with mem := cells [(0x4002, 0xFD#8)] } 0x4002#16 [0xFD#8, 0x00#8] :=
  ⟨rfl, rfl, rfl, rfl, rfl, rfl, rfl, rfl, ⟨⟨_, rfl, rfl⟩, trivial⟩, ⟨_, rfl, rfl⟩, ⟨_, rfl, rfl⟩, trivial⟩

/-- BusCycleByMap: one address of each kind on the bare PC-1500, and a device. -/
theorem test_witness_BusCycleByMap :
    let s : State := { base with board := { base.board with map := pc1500Map {} } }
    s.resolve .me0 0x4000#16 = .ram 0 ∧ s.resolve .me0 0xFFFF#16 = .rom 0 ∧ s.resolve .me0 0x0000#16 = .absent ∧
    State.resolve { base with board := { base.board with map := [region .me1 0 9 .device] } } .me1 9#16 = .device :=
  ⟨rfl, rfl, rfl, rfl⟩

/-- ReadAfterWrite: a cell and another, at the ends of ME0. -/
theorem test_witness_ReadAfterWrite :
    base.Inv ∧ base.ramCell .me0 0xFFFF#16 = some 0xFFFF ∧ base.readCell .me1 0x0000#16 = some 0x10000 ∧
    (0x10000 : Nat) ≠ 0xFFFF := ⟨rfl, rfl, rfl, by decide⟩

/-- SpacesAreSeparate: the machine after reset. -/
theorem test_witness_SpacesAreSeparate : State.reset.Inv ∧ State.reset.board.map = [] := ⟨rfl, rfl⟩

/-- StackLayout: S = 0000H, so that the second byte goes to FFFFH. -/
theorem test_witness_StackLayout :
    State.reset.Inv ∧ State.reset.ramCell .me0 State.reset.sp = some 0 ∧
    State.reset.ramCell .me0 (State.reset.sp - 1) = some 0xFFFF ∧ (0 : Nat) ≠ 0xFFFF := ⟨rfl, rfl, rfl, by decide⟩

/-- DecimalArithmetic: 99 with 99, both in A and in memory, for the first form of DCA and of DCS. -/
theorem test_witness_DecimalArithmetic :
    let s : State := { base with a := 0x99#8, mem := cells [(0, 0x99#8)] }
    validBcd s.a ∧ validBcd (s.readOperand (.ind .me0 .x)).1 := by
  unfold validBcd; decide

/-- TimerLoadResult: both sides of the case A = FFH. -/
theorem test_witness_TimerLoadResult : ({ base with a := 0xFE#8 } : State).a ≠ 0xFF#8 ∧
    ({ base with a := 0xFF#8 } : State).a = 0xFF#8 := by decide

/-- PortResult: a board with and one without the latch. -/
theorem test_witness_PortResult : base.board.phiLatch = [] ∧
    ({ base with board := { base.board with phiLatch := [.builtIn] } } : State).board.phiLatch = [.builtIn] := ⟨rfl, rfl⟩

/-- VectorCallResult: the least and the greatest operand allowed, the next ones not allowed, and a flag at both values. -/
theorem test_witness_VectorCallResult :
    (∀ i ∈ [0x00#8, 0xF6#8], i.toNat % 2 = 0 ∧ i.toNat ≤ 0xF6) ∧
    (∀ i ∈ [0x01#8, 0xF7#8, 0xF8#8], ¬ (i.toNat % 2 = 0 ∧ i.toNat ≤ 0xF6)) ∧
    base.flag .c ≠ true ∧ ({ base with c := true } : State).flag .c = true := by decide

/-- WellFormedCompletes: a well-formed call, and one that stops. -/
theorem test_witness_WellFormedCompletes :
    (Instr.vmj 0xF6#8).wellFormed = true ∧ exec (.vmj 0xF8#8) base = .fault (.reservedOperand 0xF8#8) := ⟨rfl, rfl⟩

/-! ### The hypotheses of the statements are met: the step and the frames -/

/-- StepRunsDecoded: a two-byte instruction across FFFFH, 0000H, with an empty script and with the CPU's turn in it. -/
theorem test_witness_StepRunsDecoded :
    ∀ ms ∈ [[], [Move.cpu, .timer]],
      let s : State := { base with p := 0xFFFF#16, script := ms, mem := cells [(0xFFFF, 0xB5#8), (0x0000, 0x5A#8)] }
      s.cpuTurn ∧ s.wa = false ∧ s.pendingInterrupt = none ∧ s.halted = false ∧
      s.bytesAt s.p [0xB5#8, 0x5A#8] ∧ decode [0xB5#8, 0x5A#8] = .ok (.ldiA 0x5A#8, []) := by
  have w : ∀ ms : List Move, State.bytesAt
      { base with p := 0xFFFF#16, script := ms, mem := cells [(0xFFFF, 0xB5#8), (0x0000, 0x5A#8)] } 0xFFFF#16
      [0xB5#8, 0x5A#8] := fun _ => ⟨⟨_, rfl, rfl⟩, ⟨_, rfl, rfl⟩, trivial⟩
  intro ms h
  simp only [List.mem_cons, List.not_mem_nil, or_false] at h
  rcases h with rfl | rfl
  · exact ⟨rfl, rfl, rfl, rfl, w _, rfl⟩
  · exact ⟨rfl, rfl, rfl, rfl, w _, rfl⟩

/-- MemoryStaysCanonical: a step that stores. -/
theorem test_witness_MemoryStaysCanonical :
    let s : State := { base with a := 0x3F#8, mem := cells [(0x4002, 0xAE#8), (0x4003, 0x48#8)] }
    s.Inv ∧ ∃ t, step s = .next t ∧ t.mem.read 0x4800 = 0x3F#8 := ⟨rfl, _, rfl, rfl⟩

/-- RomNeverChanges: cell 0 of a board whose ME0 is all ROM of bank 0 and whose ME1 is all RAM of bank 1. -/
theorem test_witness_RomNeverChanges :
    let s : State := { base with board := { base.board with map := [region .me0 0 0xFFFF (.rom 0)] } }
    (∀ (pv pu bf : Bool) (sp : Space) (a : Addr),
      ({ s with pv := pv, pu := pu, bf := bf } : State).ramCell sp a ≠ some 0) ∧ ∃ t, step s = .next t := by
  refine ⟨?_, _, rfl⟩
  intro pv pu bf sp a
  have ha := a.isLt
  cases sp with
  | me0 =>
    have h : (({ base with board := { base.board with map := [region .me0 0 0xFFFF (.rom 0)] }, pv := pv, pu := pu, bf := bf } :
        State).resolve .me0 a) = .rom 0 := by
      simp [State.resolve, Region.covers, region, condHolds, List.find?, ha]
    unfold State.ramCell; rw [h]; simp
  | me1 =>
    have h : (({ base with board := { base.board with map := [region .me0 0 0xFFFF (.rom 0)] }, pv := pv, pu := pu, bf := bf } :
        State).resolve .me1 a) = .ram 1 := by
      simp [State.resolve, Region.covers, region, condHolds, List.find?, Space.bank]
    unfold State.ramCell; rw [h]; simp [cellOf]

/-- RequestsAreKept: three requests set, IE reset, on a timer step and on the CPU's turn where NMI is taken. -/
theorem test_witness_RequestsAreKept :
    let s : State := { base with ir0 := true, ir1 := true, ir2 := true, script := [.timer] }
    (∃ t, step s = .next t) ∧ ¬ s.nextMove .reset ∧ s.ir0 = true ∧ s.ir1 = true ∧ s.ir2 = true ∧ ¬ s.cpuTurn ∧
    (∃ t, step { s with script := [] } = .next t) ∧ State.pendingInterrupt { s with script := [] } = some .nmi := by
  refine ⟨⟨_, rfl⟩, ?_, rfl, rfl, rfl, ?_, ⟨_, rfl⟩, rfl⟩
  · unfold State.nextMove; decide
  · unfold State.cpuTurn; decide

/-- MemoryFrame: a store, a push and a call not made, with a cell away from the stored bytes. -/
theorem test_witness_MemoryFrame :
    (∃ t, exec .staIndX { base with xh := 0x48#8 } = .next t) ∧
    (storedAddresses .staIndX { base with xh := 0x48#8 } = [(.me0, 0x4800#16)]) ∧
    storedAddresses .pshX base = [(.me0, 0x4700#16), (.me0, 0x46FF#16)] ∧ storedAddresses (.vcs 0x10#8) base = [] ∧
    (∀ w ∈ storedAddresses .pshX base, base.ramCell w.1 w.2 ≠ some 0x46FE) := by
  refine ⟨⟨_, rfl⟩, rfl, rfl, rfl, ?_⟩
  decide

/-- RegisterFrame, FlagFrame, ControlFrame: instructions that complete and write little. -/
theorem test_witness_Frames :
    (∃ t, exec .incXl base = .next t) ∧ Reg8.xh ∉ regsWritten .incXl ∧ movesS .incXl = false ∧ movesP .incXl = false ∧
    (∃ t, exec .secC base = .next t) ∧ Flag.z ∉ flagsWritten .secC ∧
    (∃ t, exec .am1 base = .next t) ∧ (Instr.am1 ≠ .am0) ∧ (∀ r ∈ base.board.map, ∀ u, r.kind ≠ .ioc u) ∧
    base.board.phiLatch = [] ∧ (∀ r ∈ base.board.map, r.kind ≠ .device) :=
  ⟨⟨_, rfl⟩, by decide, rfl, rfl, ⟨_, rfl⟩, by decide, ⟨_, rfl⟩, by decide, fun _ h => absurd h List.not_mem_nil, rfl, by decide⟩

/-! ### The hypotheses of the statements are met: reset, interrupts, timer, pins, controller -/

/-- ResetSequence, TimerStep, HostMoves, ControllerRegisters, ControllerRequests: each move is the next in some state. -/
theorem test_witness_moves : ∀ m ∈ [Move.reset, .timer, .nmi, .mi, .bfi, .inPins 0x0F#8, .wait true, .divider,
    .busMaster, .ioc .builtIn .reset, .ioc .ce150 .sent, .ioc .ce153 .divider, .ioc .ce158 (.received 0x41#8),
    .ioc .builtIn (.pins 0x00#8 0x80#8 true)],
    State.nextMove { base with script := [m] } m := by
  intro m _; rfl

/-- TimerStep, TimerPeriod: with no script the timer's turn, and one CPU step before it, which reaches it. -/
theorem test_witness_turns : State.nextMove { base with untilTimer := 0 } .timer ∧ base.cpuTurn ∧
    ∃ t, stepsTo 1 base t ∧ t.nextMove .timer := ⟨rfl, rfl, _, ⟨_, rfl, rfl⟩, rfl⟩

/-- HostMoves: the CPU's turn with the clock stopped. -/
theorem test_witness_wait : State.cpuTurn { base with wa := true } ∧ ({ base with wa := true } : State).wa = true :=
  ⟨rfl, rfl⟩

/-- ControllerRequests: IRQ and PB7 low before, PB7 in the input mode, RD reset, both pins high after, and no reset. -/
theorem test_witness_ControllerRequests : (base.ioc .builtIn).irq = false ∧ (base.ioc .builtIn).ddb.getLsbD 7 = false ∧
    (base.ioc .builtIn).pb.getLsbD 7 = false ∧ (base.ioc .builtIn).rd = false ∧ (0x80#8).getLsbD 7 = true ∧
    IocMove.pins 0x00#8 0x80#8 true ≠ .reset ∧ IocUnit.ce150 ≠ .builtIn := by
  decide

/-- BusCycleByMap: a controller's address, and a write to it that makes PB7 rise: the mode goes from input to output. -/
theorem test_witness_BusCycleAtController :
    let s : State := { base with
      board := { base.board with map := pc1500Map {} }, iocs := { base.iocs with builtIn := { Ioc.cleared with opb := 0x80#8 } } }
    s.resolve .me1 0xF00D#16 = .ioc .builtIn ∧ s.resolve .me0 0xA000#16 = .fixed 0xFF#8 ∧
    (s.ioc .builtIn).portB.getLsbD 7 = false ∧ ((s.ioc .builtIn).write 13#4 0x80#8).portB.getLsbD 7 = true := ⟨rfl, rfl, rfl, rfl⟩

/-- InterruptCheck and InterruptEntry: each interrupt is the one taken in some state on the CPU's turn. -/
theorem test_witness_InterruptEntry :
    State.pendingInterrupt { base with ir0 := true, ir1 := true } = some .nmi ∧
    State.pendingInterrupt { base with ie := true, ir1 := true } = some .timer ∧
    State.pendingInterrupt { base with ie := true, ir2 := true } = some .maskable ∧
    State.pendingInterrupt { base with ir1 := true, ir2 := true } = none ∧
    State.pendingInterrupt { base with ie := true } = none ∧
    State.cpuTurn { base with ie := true, ir2 := true } ∧ base.wa = false := ⟨rfl, rfl, rfl, rfl, rfl, rfl, rfl⟩

/-- InterruptCheck: a state with both requests and IE set. -/
theorem test_witness_InterruptCheck :
    let s : State := { base with ie := true, ir1 := true, ir2 := true }
    s.ir0 = false ∧ s.ie = true ∧ s.ir1 = true ∧ s.ir2 = true := ⟨rfl, rfl, rfl, rfl⟩

/-- RtiUndoesInterrupt: an interrupt taken with S = 0001H, so that the frame runs across 0000H, and a handler that changed A. -/
theorem test_witness_RtiUndoesInterrupt :
    let s : State := { base with sp := 0x0001#16, ie := true, c := true }
    let u : State := { s.takeInterrupt .maskable with a := 0x55#8 }
    s.Inv ∧ s.ramCell .me0 s.sp = some 1 ∧ s.ramCell .me0 (s.sp - 1) = some 0 ∧
    s.ramCell .me0 (s.sp - 2) = some 0xFFFF ∧ u.sp = (s.takeInterrupt .maskable).sp ∧
    u.readCell .me0 s.sp = some 1 ∧ u.readCell .me0 (s.sp - 1) = some 0 ∧ u.readCell .me0 (s.sp - 2) = some 0xFFFF ∧
    (∀ j ∈ [1, 0, 0xFFFF], u.mem.read j = (s.takeInterrupt .maskable).mem.read j) :=
  ⟨rfl, rfl, rfl, rfl, rfl, rfl, rfl, rfl, fun _ _ => rfl⟩

/-- RtnUndoesCall: SJP, VMJ and VEJ complete, and a subroutine that changed A. -/
theorem test_witness_RtnUndoesCall :
    base.Inv ∧ base.ramCell .me0 base.sp = some 0x4700 ∧ base.ramCell .me0 (base.sp - 1) = some 0x46FF ∧
    (∃ t, exec (.vmj 0xC0#8) base = .next t) ∧ (∃ t, exec .vejC0 base = .next t) ∧
    ∃ t, exec (.sjp 0x12#8 0x34#8) base = .next t ∧
      let u : State := { t with a := 0x55#8 }
      u.sp = t.sp ∧ u.readCell .me0 base.sp = some 0x4700 ∧ u.readCell .me0 (base.sp - 1) = some 0x46FF ∧
      u.mem.read 0x4700 = t.mem.read 0x4700 ∧ u.mem.read 0x46FF = t.mem.read 0x46FF :=
  ⟨rfl, rfl, rfl, ⟨_, rfl⟩, ⟨_, rfl⟩, _, rfl, rfl, rfl, rfl, rfl, rfl⟩

/-- RtnUndoesCall: a conditional vector call that is made. -/
theorem test_witness_RtnUndoesConditionalCall :
    let s : State := { base with c := true }
    (∃ f ∈ vectorIfForms 0x10#8, f.instr = .vcs 0x10#8 ∧ s.flag f.what.1 = f.what.2) ∧
    ∃ t, exec (.vcs 0x10#8) s = .next t ∧ t.sp = 0x46FE#16 :=
  ⟨⟨⟨[0xC3#8, 0x10#8], .vcs 0x10#8, (.c, true)⟩, by simp [vectorIfForms], rfl, rfl⟩, _, rfl, rfl⟩

/-- HaltedCpuWaits: halted with a request that IE masks, and with none. -/
theorem test_witness_HaltedCpuWaits :
    let s : State := { base with halted := true, ir1 := true }
    s.cpuTurn ∧ s.wa = false ∧ s.pendingInterrupt = none ∧ s.halted = true ∧
    State.pendingInterrupt { s with ir1 := false } = none := ⟨rfl, rfl, rfl, rfl, rfl⟩

/-- TimerPeriod: the first and the last value of the cycle, and step numbers at both ends. -/
theorem test_witness_TimerPeriod : (0x001#9 : TimerWord) ≠ 0#9 ∧ (0x1FF#9 : TimerWord) ≠ 0#9 ∧ 0 < 1 ∧ 510 < 511 := by
  decide

/-- Pc1500MemoryMap: the PC-1500 with nothing attached, with BF set and reset, PV reset, at the ends of the ranges. -/
theorem test_witness_Pc1500MemoryMap :
    let s : State := { base with board := { base.board with map := pc1500Map {} } }
    s.board.map = pc1500Map {} ∧ s.bf = true ∧ s.pv = false ∧ ({ s with bf := false } : State).bf = false ∧
    s.resolve .me0 0x3FFF#16 = .absent ∧ s.resolve .me0 0x4000#16 = .ram 0 ∧ s.resolve .me0 0x47FF#16 = .ram 0 ∧
    s.resolve .me0 0x4800#16 = .absent ∧ s.resolve .me0 0x75FF#16 = .absent ∧ s.resolve .me0 0x7600#16 = .ram 0 ∧
    s.resolve .me0 0x7BFF#16 = .ram 0 ∧ s.resolve .me0 0x7C00#16 = .absent ∧ s.resolve .me0 0x9FFF#16 = .absent ∧
    s.resolve .me0 0xA000#16 = .fixed 0xFF#8 ∧ s.resolve .me0 0xBFFF#16 = .fixed 0xFF#8 ∧
    s.resolve .me0 0xC000#16 = .rom 0 ∧ State.resolve { s with pv := true } .me0 0xA000#16 = .absent ∧
    s.resolve .me1 0xF000#16 = .ioc .builtIn ∧ s.resolve .me1 0xF00F#16 = .ioc .builtIn ∧
    s.resolve .me1 0xEFFF#16 = .absent ∧ s.resolve .me1 0xF010#16 = .absent :=
  ⟨rfl, rfl, rfl, rfl, rfl, rfl, rfl, rfl, rfl, rfl, rfl, rfl, rfl, rfl, rfl, rfl, rfl, rfl, rfl, rfl, rfl⟩

/-- Pc1500MemoryMap: the PC-1500A with the three peripherals, a module and option RAM at S5. -/
theorem test_witness_Pc1500aMemoryMap :
    let f : Fitted := { units := [.ce150, .ce153, .ce158], userModule := .rom 3, optionRam := [5] }
    let s : State := { base with board := { base.board with map := pc1500aMap f } }
    s.board.map = pc1500aMap f ∧ IocUnit.ce150 ∈ f.units ∧ s.resolve .me0 0x3FFF#16 = .rom 3 ∧
    s.resolve .me0 0x57FF#16 = .ram 0 ∧ s.resolve .me0 0x5800#16 = .absent ∧ s.resolve .me0 0x67FF#16 = .absent ∧
    s.resolve .me0 0x6800#16 = .ram 0 ∧ s.resolve .me0 0x6FFF#16 = .ram 0 ∧ s.resolve .me0 0x7FFF#16 = .ram 0 ∧
    (s.busRead .me0 0xA000#16).1 = 0xC0#8 ∧ s.resolve .me0 0xA001#16 = .rom 2 ∧ s.resolve .me0 0xBFFF#16 = .rom 2 ∧
    s.resolve .me1 0xB000#16 = .ioc .ce150 ∧ s.resolve .me1 0x800F#16 = .ioc .ce153 ∧
    s.resolve .me1 0xD00E#16 = .ioc .ce158 ∧ s.resolve .me1 0xD00F#16 = .absent :=
  ⟨rfl, List.mem_cons_self, rfl, rfl, rfl, rfl, rfl, rfl, rfl, rfl, rfl, rfl, rfl, rfl, rfl, rfl⟩

/-- Pc1500MemoryMap: PV chooses between two banks of the option area, and with PV set PU between two sub-banks (R57). -/
theorem test_witness_option_banks :
    let f : Fitted := { lowPvReset := .rom 3, lowPuReset := .rom 4, lowPuSet := .rom 5, highPvSet := .rom 6 }
    let s : State := { base with board := { base.board with map := pc1500Map f } }
    s.bf = true ∧ s.pv = false ∧ [0x8000#16, 0x9FFF#16].map (s.resolve .me0) = [.rom 3, .rom 3] ∧
    [0x8000#16, 0x9FFF#16].map (State.resolve { s with pu := true } .me0) = [.rom 3, .rom 3] ∧
    [0x8000#16, 0x9FFF#16, 0xA000#16].map (State.resolve { s with pv := true } .me0) = [.rom 4, .rom 4, .rom 6] ∧
    [0x8000#16, 0x9FFF#16, 0xBFFF#16].map (State.resolve { s with pv := true, pu := true } .me0) =
      [.rom 5, .rom 5, .rom 6] := ⟨rfl, rfl, rfl, rfl, rfl, rfl⟩

/-- HostMoves: the dividers run on through a turn of the halted CPU, and stand still through an event at a pin. -/
theorem test_witness_dividers :
    let s : State := { base with halted := true }
    s.cpuTurn ∧ s.divider < s.popMove.divider ∧ (s.ioc .ce158).divider < (s.popMove.ioc .ce158).divider ∧
    ¬ State.cpuTurn { base with script := [.nmi] } ∧ ¬ State.nextMove { base with script := [.nmi] } .timer := by
  refine ⟨rfl, Nat.lt_succ_of_le (Nat.le_add_right _ _), Nat.lt_succ_of_le (Nat.le_add_right _ _), ?_, ?_⟩
  · unfold State.cpuTurn; decide
  · unfold State.nextMove; decide

end Sys2Proof.Tests
end

section
/-! PROOFS. The 8-bit adder against integer arithmetic (10_state.md R17 to R21). -/

namespace Sys2Proof.Machine

theorem bitAs_toNat (n : Nat) (b : Bool) : (bitAs (n + 1) b).toNat = b.toNat := by
  cases b <;> simp [bitAs]

/-- The bit above an `n`-bit addition is the carry out of it: the addition reaches `2 ^ n`. -/
theorem carry_out {n : Nat} (x y : BitVec n) (cin : Bool) :
    (x.setWidth (n + 1) + y.setWidth (n + 1) + bitAs (n + 1) cin).getLsbD n =
      decide (2 ^ n ≤ x.toNat + y.toNat + cin.toNat) := by
  have hx := x.isLt
  have hy := y.isLt
  have hc := cin.toNat_lt
  have hp : 2 ^ (n + 1) = 2 * 2 ^ n := by rw [Nat.pow_succ, Nat.mul_comm]
  have hsum : (x.setWidth (n + 1) + y.setWidth (n + 1) + bitAs (n + 1) cin).toNat = x.toNat + y.toNat + cin.toNat := by
    rw [BitVec.toNat_add, BitVec.toNat_add, bitAs_toNat, BitVec.toNat_setWidth_of_le (by omega),
      BitVec.toNat_setWidth_of_le (by omega), Nat.mod_eq_of_lt (a := x.toNat + y.toNat) (by omega),
      Nat.mod_eq_of_lt (by omega)]
  have hmsb := BitVec.msb_eq_decide (x.setWidth (n + 1) + y.setWidth (n + 1) + bitAs (n + 1) cin)
  rw [BitVec.msb_eq_getLsbD_last] at hmsb
  rw [hsum] at hmsb
  exact hmsb

/-- The adder of R21 answers what R17 to R20 say of integers. -/
theorem add8_eq_addMeaning (a b : Byte) (cin : Bool) : add8 a b cin = addMeaning a b cin := by
  have ha := a.isLt
  have hb := b.isLt
  have hc := cin.toNat_lt
  have carry8 := carry_out a b cin
  have carry4 := carry_out (a.extractLsb' 0 4) (b.extractLsb' 0 4) cin
  have carry7 := carry_out (a.extractLsb' 0 7) (b.extractLsb' 0 7) cin
  simp only [BitVec.extractLsb'_toNat, Nat.shiftRight_zero] at carry4 carry7
  have sum : (a.setWidth 9 + b.setWidth 9 + bitAs 9 cin).setWidth 8 =
      BitVec.ofNat 8 (a.toNat + b.toNat + cin.toNat) := by
    apply BitVec.eq_of_toNat_eq
    simp [bitAs_toNat]
  have overflow : (decide (2 ^ 7 ≤ a.toNat % 2 ^ 7 + b.toNat % 2 ^ 7 + cin.toNat) ^^
      decide (2 ^ 8 ≤ a.toNat + b.toNat + cin.toNat)) =
      decide (a.toInt + b.toInt + cin.toNat < -128 ∨ 127 < a.toInt + b.toInt + cin.toNat) := by
    rw [Bool.eq_iff_iff]
    simp only [BitVec.toInt_eq_toNat_cond, Bool.xor_iff_ne, ne_eq, decide_eq_true_eq, decide_eq_decide]
    split <;> split <;> omega
  have zero : BitVec.ofNat 8 (a.toNat + b.toNat + cin.toNat) = 0#8 ↔ (a.toNat + b.toNat + cin.toNat) % 256 = 0 := by
    rw [BitVec.toNat_eq]; rfl
  simp only [add8, addMeaning, carry8, carry4, carry7, sum, overflow, zero]
  rfl

theorem toInt_complement (b : Byte) : (~~~b).toInt = -b.toInt - 1 := by
  have hb := b.isLt
  have hnot : (~~~b).toNat = 255 - b.toNat := BitVec.toNat_not
  simp only [BitVec.toInt_eq_toNat_cond, hnot]
  split <;> split <;> omega

/-- Adding the one's complement is subtracting: `a + (255 - b) + cin` is 256 more than `a - b - (1 - cin)`. -/
theorem addMeaning_complement (a b : Byte) (cin : Bool) : addMeaning a (~~~b) cin = subMeaning a b cin := by
  have ha := a.isLt
  have hb := b.isLt
  have hnot : (~~~b).toNat = 255 - b.toNat := BitVec.toNat_not
  have borrow : ((!cin).toNat : Int) = 1 - cin.toNat := by cases cin <;> rfl
  have sum : BitVec.ofNat 8 (a.toNat + (255 - b.toNat) + cin.toNat) =
      BitVec.ofInt 8 (a.toNat - b.toNat - (1 - cin.toNat)) := by
    apply BitVec.eq_of_toNat_eq
    rw [BitVec.toNat_ofNat, BitVec.toNat_ofInt]
    omega
  have digit : (255 - b.toNat) % 16 = 15 - b.toNat % 16 := by omega
  simp only [addMeaning, subMeaning, hnot, toInt_complement, borrow, sum, digit, AddResult.mk.injEq,
    decide_eq_decide, true_and]
  refine ⟨?_, ?_, ?_, ?_⟩ <;> omega

/-- Settles O5: the carries out of bits 7, 3 and 6 of the adder are those of the integer sum, and its one's complement
form is the integer difference. -/
theorem adderMeaning : Obligations.AdderMeaning := by
  intro a b cin
  exact ⟨add8_eq_addMeaning a b cin, (add8_eq_addMeaning a (~~~b) cin).trans (addMeaning_complement a b cin)⟩

end Sys2Proof.Machine
end

section
/-! PROOFS. Registers and operands, reset, the fetch of an instruction, and the host's pins. -/

namespace Sys2Proof.Machine

variable (s : State)

/-! ### Registers and operands -/

theorem setReg_reg (r q : Reg8) (b : Byte) : (s.setReg r b).reg q = if q = r then b else s.reg q := by
  split
  case isTrue h => rw [h, setReg_same]
  case isFalse h => exact setReg_other s b h

theorem Pair.hi_ne_lo (p : Pair) : p.hi ≠ p.lo := by cases p <;> decide

theorem setPair_reg (p : Pair) (q : Reg8) (w : Addr) :
    (s.setPair p w).reg q = if q = p.lo then loByte w else if q = p.hi then hiByte w else s.reg q := by
  simp only [State.setPair, setReg_reg]

theorem setPair_pair_same (p : Pair) (w : Addr) : (s.setPair p w).pair p = w := by
  simp [State.pair, setPair_reg, p.hi_ne_lo]

/-- Settles O6: the pair is its two halves, and every operand form is the place it names. -/
theorem registersAndOperands : Obligations.RegistersAndOperands := by
  intro s r sp p a b v w
  refine ⟨ofBytes_toNat _ _, fun q => setReg_reg s r q v, setPair_pair_same s p w, fun q hhi hlo => ?_,
    rfl, rfl, rfl, rfl, rfl, rfl, ofBytes_toNat a b⟩
  rw [setPair_reg, if_neg hlo, if_neg hhi]

/-! ### Whose move it is -/

/-- The step of a machine whose next move is a host's: that move, on the machine with the turn taken. -/
theorem step_of_hostMove {s t : State} {m : Move} (hm : s.nextMove m) (hc : m ≠ .cpu)
    (ht : s.popMove.hostMove m = some t) : step s = .next t := by
  unfold State.nextMove at hm
  unfold step State.move
  rw [hm]
  split
  · exact absurd rfl hc
  · rw [ht]

/-- The step of a machine whose next move is the CPU's. -/
theorem step_of_cpuTurn {s : State} (h : s.cpuTurn) : step s = s.popMove.cpuStep := by
  unfold State.cpuTurn at h
  unfold step State.move
  rw [h]

/-- A script that names a second bus master is refused (U11). -/
theorem step_of_busMaster {s : State} (h : s.nextMove .busMaster) : step s = .refused .externalBusMaster := by
  unfold State.nextMove at h
  unfold step State.move
  rw [h]
  rfl

/-! ### Reset -/

/-- Settles O42: the memory of `State.reset` lists nothing. -/
theorem resetHasInvariant : Obligations.ResetHasInvariant := State.reset_mem_wf

/-- Settles O49: the reset move is `State.resetCpu`, whose vector stands at FFFEH and FFFFH. -/
theorem resetSequence : Obligations.ResetSequence := by
  refine ⟨fun s h => ?_, rfl, rfl, rfl, rfl, rfl, rfl, rfl, rfl⟩
  exact step_of_hostMove h (by decide) rfl

/-! ### Fetching an instruction -/

/-- A read at P from RAM or ROM fetches the byte there and moves P by one. -/
theorem fetch_of_readCell {s : State} {k : Nat} (h : s.readCell .me0 s.p = some k) :
    s.fetch = (s.mem.read k, { s with p := s.p + 1 }) := by
  unfold State.fetch
  rw [busRead_of_readCell h]

/-- Where instruction bytes stand depends on memory and the map alone. -/
theorem bytesAt_congr {s t : State} (hm : t.mem = s.mem) (hr : ∀ a, t.readCell .me0 a = s.readCell .me0 a)
    {bs : List Byte} {a : Addr} (h : s.bytesAt a bs) : t.bytesAt a bs := by
  induction bs generalizing a with
  | nil => trivial
  | cons b rest ih =>
    obtain ⟨⟨k, hk, hb⟩, hrest⟩ := h
    exact ⟨⟨k, (hr a).trans hk, hm ▸ hb⟩, ih hrest⟩

/-- The head of the bytes at P is fetched, and the rest stands at the new P. -/
theorem fetch_of_bytesAt {s : State} {b : Byte} {rest : List Byte} (h : s.bytesAt s.p (b :: rest)) :
    s.fetch = (b, { s with p := s.p + 1 }) ∧ State.bytesAt { s with p := s.p + 1 } (s.p + 1) rest := by
  obtain ⟨⟨k, hk, hb⟩, hrest⟩ := h
  exact ⟨hb ▸ fetch_of_readCell hk, bytesAt_congr (s := s) (t := { s with p := s.p + 1 }) rfl (fun _ => rfl) hrest⟩

theorem add_one_add_ofNat (p : Addr) (n : Nat) : p + 1 + BitVec.ofNat 16 n = p + BitVec.ofNat 16 (n + 1) := by
  rw [BitVec.add_assoc, Nat.add_comm n 1, BitVec.ofNat_add]
  rfl

/-- As many bytes as stand at P are fetched in order, and P moves past them, modulo 65,536. -/
theorem fetchMany_of_bytesAt {s : State} {bs : List Byte} (h : s.bytesAt s.p bs) :
    State.fetchMany bs.length s = (bs, { s with p := s.p + BitVec.ofNat 16 bs.length }) := by
  induction bs generalizing s with
  | nil => simp [State.fetchMany]
  | cons b rest ih =>
    obtain ⟨hb, hrest⟩ := fetch_of_bytesAt h
    simp only [List.length_cons, State.fetchMany, hb, ih (s := { s with p := s.p + 1 }) hrest, add_one_add_ofNat]

/-- An opcode byte and bytes that decode to an instruction with nothing left over are as many bytes as R75 gives. -/
theorem length_of_decodePage {second : Bool} {op : Byte} {rest : List Byte} {i : Instr}
    (h : decodePage second op rest = .ok (i, [])) : operandCount second op = rest.length := by
  unfold decodePage at h
  dsimp only at h
  split at h
  case isTrue => cases h
  case isFalse hlen =>
    split at h
    · have hdrop : rest.drop (operandCount second op) = [] := (Prod.mk.inj (Except.ok.inj h)).2
      have := List.drop_eq_nil_iff.mp hdrop
      omega
    · cases h

/-- The fetch of an instruction takes the bytes that decode to it, and moves P past them. -/
theorem fetchBytes_of_bytesAt {s : State} {bs : List Byte} {i : Instr} (h : s.bytesAt s.p bs)
    (hd : decode bs = .ok (i, [])) : s.fetchBytes = (bs, { s with p := s.p + BitVec.ofNat 16 bs.length }) := by
  cases bs with
  | nil => cases hd
  | cons b0 rest =>
    obtain ⟨hb0, hrest⟩ := fetch_of_bytesAt h
    unfold State.fetchBytes
    unfold decode at hd
    by_cases hpage : b0 = 0xFD#8
    · simp only [hpage, if_true] at hd hb0
      cases rest with
      | nil => cases hd
      | cons b1 rest1 =>
        obtain ⟨hb1, hrest1⟩ := fetch_of_bytesAt (s := { s with p := s.p + 1 }) hrest
        have hmany := fetchMany_of_bytesAt (s := { s with p := s.p + 1 + 1 }) hrest1
        simp only [hb0, hb1, hpage, if_true, length_of_decodePage hd, hmany, List.length_cons, add_one_add_ofNat]
    · simp only [hpage, if_false] at hd
      have hmany := fetchMany_of_bytesAt (s := { s with p := s.p + 1 }) hrest
      simp only [hb0, hpage, if_false, length_of_decodePage hd, hmany, List.length_cons, add_one_add_ofNat]

/-- A CPU step that is not stalled, halted or interrupted runs one instruction. -/
theorem cpuStep_of_running {s : State} (hw : s.wa = false) (hp : s.pendingInterrupt = none) (hh : s.halted = false) :
    s.cpuStep = s.runInstr := by
  simp [State.cpuStep, hw, hp, hh]

/-- Running the instruction whose bytes stand at P. -/
theorem runInstr_of_bytesAt {s : State} {bs : List Byte} {i : Instr} (h : s.bytesAt s.p bs)
    (hd : decode bs = .ok (i, [])) : s.runInstr = exec i { s with p := s.p + BitVec.ofNat 16 bs.length } := by
  unfold State.runInstr State.fetchInstr
  rw [fetchBytes_of_bytesAt h hd]
  simp only [hd]
  rfl

@[simp] theorem popMove_pendingInterrupt : s.popMove.pendingInterrupt = s.pendingInterrupt := by
  simp [State.pendingInterrupt]

/-- Settles O40: taking the turn moves neither P nor what stands in memory, and the fetch takes exactly the bytes. -/
theorem stepRunsDecoded : Obligations.StepRunsDecoded := by
  intro s bs i hturn hw hp hh hbytes hd
  have hbytes' : s.popMove.bytesAt s.popMove.p bs := by
    rw [popMove_p]
    exact bytesAt_congr (popMove_mem s)
      (readCell_congr (popMove_board s) (popMove_pv s) (popMove_pu s) (popMove_bf s) .me0) hbytes
  rw [step_of_cpuTurn hturn, cpuStep_of_running (by simpa) (by simpa) (by simpa), runInstr_of_bytesAt hbytes' hd,
    popMove_p]

/-! ### The host's pins -/

/-- With no script the CPU or the timer has its turn. -/
theorem turn_of_no_script {s : State} (hs : s.script = []) : s.cpuTurn ∨ s.nextMove .timer := by
  obtain ⟨m, rest, h, -⟩ | ⟨n, -, -, h⟩ | ⟨-, -, h⟩ := nextTurn_cases s
  · rw [hs] at h
    cases h
  · exact .inl (congrArg Prod.fst h)
  · exact .inr (congrArg Prod.fst h)

theorem popMove_script {m : Move} {rest : List Move} (h : s.script = m :: rest) : s.popMove.script = rest := by
  simp [State.popMove, State.nextTurn, h]

/-- No agent's move changes the script. -/
theorem hostMove_script {s t : State} {m : Move} (h : s.hostMove m = some t) : t.script = s.script := by
  cases m with
  | cpu | busMaster => cases h
  | reset => cases h; simp [State.resetCpu]
  | ioc u e => cases h; cases e <;> rfl
  | _ => cases h; rfl

/-- From every state the CPU's or the timer's turn comes within the script's moves, or the machine stops on the way. -/
theorem turn_comes {script : List Move} {s : State} (hs : s.script = script) :
    ∃ (n : Nat) (t : State), n ≤ script.length ∧ stepsTo n s t ∧
      (t.cpuTurn ∨ t.nextMove .timer ∨ ∀ u, step t ≠ .next u) := by
  induction script generalizing s with
  | nil => exact ⟨0, s, le_rfl, rfl, (turn_of_no_script hs).imp_right .inl⟩
  | cons m rest ih =>
    by_cases hstop : ∀ u, step s ≠ .next u
    · exact ⟨0, s, Nat.zero_le _, rfl, .inr (.inr hstop)⟩
    · obtain ⟨u, hu⟩ := not_forall_not.mp hstop
      obtain ⟨hcpu, -⟩ | ⟨-, hmove⟩ := step_cases hu
      · exact ⟨0, s, Nat.zero_le _, rfl, .inl hcpu⟩
      · have hrest : u.script = rest := (hostMove_script hmove).trans (popMove_script s hs)
        obtain ⟨n, t, hn, hsteps, hend⟩ := ih hrest
        exact ⟨n + 1, t, Nat.succ_le_succ hn, ⟨u, hu, hsteps⟩, hend⟩

/-- Taking a turn changes whose turn is next, the draws and the dividers alone. -/
theorem popMove_changes : ∃ (script : List Move) (n d k : Nat) (c : Iocs),
    s.popMove = { s with script := script, untilTimer := n, draws := d, divider := k, iocs := c } ∧
    ∀ u, ∃ j, c.get u = { s.ioc u with divider := j } := by
  obtain ⟨script, n, d, k, c, h⟩ := popMove_parts s
  have hc : s.popMove.iocs = c := by rw [h]
  exact ⟨script, n, d, k, c, h, fun u => hc ▸ popMove_ioc s u⟩

/-- In a turn of the CPU or the timer every divider grows. -/
theorem popMove_dividers_grow (h : s.cpuTurn ∨ s.nextMove .timer) :
    s.divider < s.popMove.divider ∧ ∀ u, (s.ioc u).divider < (s.popMove.ioc u).divider := by
  obtain ⟨hcpu, hioc⟩ := popMove_runs s h
  refine ⟨hcpu, fun u => ?_⟩
  obtain ⟨free, hfree⟩ := hioc u
  rw [hfree]
  exact Nat.lt_succ_of_le (Nat.le_add_right _ free)

/-- An event at a pin finds the divider as it was. -/
theorem popMove_divider_of_event {m : Move} (h : s.nextMove m) (hc : m ≠ .cpu) (ht : m ≠ .timer) :
    s.popMove.divider = s.divider :=
  (popMove_event s (fun e => hc (h.symm.trans e)) (fun e => ht (h.symm.trans e))).2

/-- Settles O57: each move by what `State.hostMove` gives it, the turn that comes by induction on the script. -/
theorem hostMoves : Obligations.HostMoves := by
  intro s
  refine ⟨fun h => step_of_hostMove h nofun rfl, fun h => step_of_hostMove h nofun rfl, fun h => ?bfi,
    fun v h => step_of_hostMove h nofun rfl, fun level h => step_of_hostMove h nofun rfl, fun h => ?divider,
    fun h hw => ?stalled, turn_comes rfl, popMove_dividers_grow s, fun hc ht => ?event, popMove_changes s,
    step_of_busMaster⟩
  case bfi =>
    rw [← popMove_out s]
    exact step_of_hostMove h nofun rfl
  case divider =>
    rw [← popMove_divider_of_event s h nofun nofun]
    exact step_of_hostMove h nofun rfl
  case stalled =>
    rw [step_of_cpuTurn h, State.cpuStep, popMove_wa, hw]
    rfl
  case event =>
    obtain ⟨hiocs, hdivider⟩ := popMove_event s hc ht
    exact ⟨hdivider, hiocs⟩

end Sys2Proof.Machine
end

section
/-! PROOFS. Frames: what an instruction leaves as it was (10_state.md R12 to R30). One relation `Frame` says it for the
whole state, with one rule per state operation and one per shared meaning. -/

namespace Sys2Proof.Machine

/-! ### The relation -/

/-- The parts of the state that some instruction writes. -/
inductive Slot where
  | a | xl | xh | yl | yh | ul | uh
  | c | ie | z | v | h
  | sp | p
  | tm | divider | pu | pv | disp | bf | halted | ir1 | out

def Reg8.slot : Reg8 → Slot
  | .a => .a
  | .xl => .xl
  | .xh => .xh
  | .yl => .yl
  | .yh => .yh
  | .ul => .ul
  | .uh => .uh

def Flag.slot : Flag → Slot
  | .c => .c
  | .ie => .ie
  | .z => .z
  | .v => .v
  | .h => .h

/-- The map names no port controller. -/
def Board.NoController (b : Board) : Prop := ∀ r ∈ b.map, ∀ u, r.kind ≠ .ioc u

/-- The map names no device. -/
def Board.NoDevice (b : Board) : Prop := ∀ r ∈ b.map, r.kind ≠ .device

/-- A part of `t` is as in `s`; the list `out`, where the map names nothing that writes it. -/
@[simp] def Slot.Same (s t : State) : Slot → Prop
  | .a => t.a = s.a
  | .xl => t.xl = s.xl
  | .xh => t.xh = s.xh
  | .yl => t.yl = s.yl
  | .yh => t.yh = s.yh
  | .ul => t.ul = s.ul
  | .uh => t.uh = s.uh
  | .c => t.c = s.c
  | .ie => t.ie = s.ie
  | .z => t.z = s.z
  | .v => t.v = s.v
  | .h => t.h = s.h
  | .sp => t.sp = s.sp
  | .p => t.p = s.p
  | .tm => t.tm = s.tm
  | .divider => t.divider = s.divider
  | .pu => t.pu = s.pu
  | .pv => t.pv = s.pv
  | .disp => t.disp = s.disp
  | .bf => t.bf = s.bf
  | .halted => t.halted = s.halted
  | .ir1 => t.ir1 = s.ir1
  | .out => s.board.NoController → s.board.NoDevice → t.out = s.out

/-- What no instruction writes: IR0, WA, the input pins, the board, script and turn; a request is only ever set; and
without a controller on the board none changes. -/
structure Surroundings (s t : State) : Prop where
  ir0 : t.ir0 = s.ir0
  wa : t.wa = s.wa
  inPins : t.inPins = s.inPins
  board : t.board = s.board
  script : t.script = s.script
  untilTimer : t.untilTimer = s.untilTimer
  ir1_set : s.ir1 = true → t.ir1 = true
  ir2_set : s.ir2 = true → t.ir2 = true
  controllers : s.board.NoController → s.board.phiLatch = [] → t.iocs = s.iocs ∧ t.ir2 = s.ir2

/-- `t` is `s` but for the parts `w`, memory, the count of draws, and the controllers the bus reaches. -/
structure Frame (w : List Slot) (s t : State) : Prop where
  surroundings : Surroundings s t
  same : ∀ q, q ∉ w → q.Same s t

variable {s t u : State} {w w' : List Slot}

theorem Slot.Same.trans {q : Slot} (hb : t.board = s.board) (h : q.Same s t) (h' : q.Same t u) : q.Same s u := by
  cases q
  case out => exact fun hc hd => (h' (hb ▸ hc) (hb ▸ hd)).trans (h hc hd)
  all_goals exact Eq.trans h' h

theorem Surroundings.trans (h : Surroundings s t) (h' : Surroundings t u) : Surroundings s u where
  ir0 := h'.ir0.trans h.ir0
  wa := h'.wa.trans h.wa
  inPins := h'.inPins.trans h.inPins
  board := h'.board.trans h.board
  script := h'.script.trans h.script
  untilTimer := h'.untilTimer.trans h.untilTimer
  ir1_set := h'.ir1_set ∘ h.ir1_set
  ir2_set := h'.ir2_set ∘ h.ir2_set
  controllers hc hl := by
    obtain ⟨hiocs, hir2⟩ := h.controllers hc hl
    obtain ⟨hiocs', hir2'⟩ := h'.controllers (h.board ▸ hc) (h.board ▸ hl)
    exact ⟨hiocs'.trans hiocs, hir2'.trans hir2⟩

/-- An update of parts, memory and the count of draws alone. -/
theorem Frame.of_update (h : t = { t with
      ir0 := s.ir0, wa := s.wa, inPins := s.inPins, board := s.board, script := s.script, untilTimer := s.untilTimer
      ir1 := s.ir1, ir2 := s.ir2, iocs := s.iocs })
    (hw : ∀ q, q ∉ w → q.Same s t) : Frame w s t :=
  ⟨by rw [h]; exact ⟨rfl, rfl, rfl, rfl, rfl, rfl, id, id, fun _ _ => ⟨rfl, rfl⟩⟩, hw⟩

theorem Frame.refl (s : State) : Frame [] s s := .of_update rfl fun q _ => by cases q <;> simp

theorem Frame.mono (h : Frame w s t) (hw : w ⊆ w') : Frame w' s t :=
  ⟨h.surroundings, fun q hq => h.same q (mt (@hw q) hq)⟩

theorem Frame.trans (h : Frame w s t) (h' : Frame w' t u) : Frame (w ++ w') s u where
  surroundings := h.surroundings.trans h'.surroundings
  same q hq := by
    obtain ⟨hw, hw'⟩ := not_or.mp (mt List.mem_append.mpr hq)
    exact (h.same q hw).trans h.surroundings.board (h'.same q hw')

theorem Frame.reg (h : Frame w s t) {r : Reg8} (hr : r.slot ∉ w) : t.reg r = s.reg r := by
  cases r <;> exact h.same _ hr

theorem Frame.flag (h : Frame w s t) {f : Flag} (hf : f.slot ∉ w) : t.flag f = s.flag f := by
  cases f <;> exact h.same _ hf

/-! ### The rule of each state operation -/

section
variable (s)

theorem setReg_frame (r : Reg8) (b : Byte) : Frame [r.slot] s (s.setReg r b) := by
  refine .of_update (by cases r <;> rfl) fun q hq => ?_
  cases r <;> cases q <;> simp_all [State.setReg, Reg8.slot]

theorem with_a_frame (b : Byte) : Frame [.a] s { s with a := b } := setReg_frame s .a b

theorem setPair_frame (r : Pair) (v : Addr) : Frame [r.lo.slot, r.hi.slot] s (s.setPair r v) :=
  ((setReg_frame s r.hi _).trans (setReg_frame _ r.lo _)).mono (by simp)

theorem setFlags_frame (r : AddResult) : Frame [.c, .h, .v, .z] s (s.setFlags r) :=
  .of_update rfl fun q hq => by cases q <;> simp_all

theorem setShiftFlags_frame (c : Bool) : Frame [.c, .h, .v, .z] s (s.setShiftFlags c) :=
  .of_update rfl fun q hq => by cases q <;> simp_all

theorem setZ_frame (b : Byte) : Frame [.z] s (s.setZ b) := .of_update rfl fun q hq => by cases q <;> simp_all

theorem setT_frame (b : Byte) : Frame [.c, .ie, .z, .v, .h] s (s.setT b) :=
  .of_update rfl fun q hq => by cases q <;> simp_all

theorem with_c_frame (x : Bool) : Frame [.c] s { s with c := x } :=
  .of_update rfl fun q hq => by cases q <;> simp_all

theorem with_ie_frame (x : Bool) : Frame [.ie] s { s with ie := x } :=
  .of_update rfl fun q hq => by cases q <;> simp_all

theorem with_z_frame (x : Bool) : Frame [.z] s { s with z := x } :=
  .of_update rfl fun q hq => by cases q <;> simp_all

theorem with_sp_frame (x : Addr) : Frame [.sp] s { s with sp := x } :=
  .of_update rfl fun q hq => by cases q <;> simp_all

theorem with_p_frame (x : Addr) : Frame [.p] s { s with p := x } :=
  .of_update rfl fun q hq => by cases q <;> simp_all

theorem with_tm_frame (x : TimerWord) : Frame [.tm] s { s with tm := x } :=
  .of_update rfl fun q hq => by cases q <;> simp_all

theorem with_divider_frame (x : Nat) : Frame [.divider] s { s with divider := x } :=
  .of_update rfl fun q hq => by cases q <;> simp_all

theorem with_pu_frame (x : Bool) : Frame [.pu] s { s with pu := x } :=
  .of_update rfl fun q hq => by cases q <;> simp_all

theorem with_pv_frame (x : Bool) : Frame [.pv] s { s with pv := x } :=
  .of_update rfl fun q hq => by cases q <;> simp_all

theorem with_disp_frame (x : Bool) : Frame [.disp] s { s with disp := x } :=
  .of_update rfl fun q hq => by cases q <;> simp_all

theorem with_halted_frame (x : Bool) : Frame [.halted] s { s with halted := x } :=
  .of_update rfl fun q hq => by cases q <;> simp_all

/-- Where the map names no controller, none stands at an address. -/
theorem resolve_ne_ioc (h : s.board.NoController) (sp : Space) (a : Addr) (n : IocUnit) : s.resolve sp a ≠ .ioc n := by
  unfold State.resolve
  split
  case h_1 r hr => exact h r (List.mem_of_find?_eq_some hr) n
  case h_2 => nofun

/-- Where the map names no device, none stands at an address. -/
theorem resolve_ne_device (h : s.board.NoDevice) (sp : Space) (a : Addr) : s.resolve sp a ≠ .device := by
  unfold State.resolve
  split
  case h_1 r hr => exact h r (List.mem_of_find?_eq_some hr)
  case h_2 => nofun

/-- Without a controller a read cycle leaves controllers and IR2 alone. -/
theorem busRead_controllers (h : s.board.NoController) (sp : Space) (a : Addr) :
    (s.busRead sp a).2.iocs = s.iocs ∧ (s.busRead sp a).2.ir2 = s.ir2 := by
  unfold State.busRead
  split
  case h_3 n hn => exact absurd hn (resolve_ne_ioc s h sp a n)
  all_goals exact ⟨rfl, rfl⟩

theorem busWrite_controllers (h : s.board.NoController) (sp : Space) (a : Addr) (b : Byte) :
    (s.busWrite sp a b).iocs = s.iocs ∧ (s.busWrite sp a b).ir2 = s.ir2 := by
  unfold State.busWrite
  split
  case h_3 n hn => exact absurd hn (resolve_ne_ioc s h sp a n)
  all_goals exact ⟨rfl, rfl⟩

/-- Without controllers and devices the host sees no bus cycle. -/
theorem busRead_out (hc : s.board.NoController) (hd : s.board.NoDevice) (sp : Space) (a : Addr) :
    (s.busRead sp a).2.out = s.out := by
  unfold State.busRead
  split
  case h_3 n hn => exact absurd hn (resolve_ne_ioc s hc sp a n)
  case h_4 hn => exact absurd hn (resolve_ne_device s hd sp a)
  all_goals rfl

theorem busWrite_out (hc : s.board.NoController) (hd : s.board.NoDevice) (sp : Space) (a : Addr) (b : Byte) :
    (s.busWrite sp a b).out = s.out := by
  unfold State.busWrite
  split
  case h_3 n hn => exact absurd hn (resolve_ne_ioc s hc sp a n)
  case h_4 hn => exact absurd hn (resolve_ne_device s hd sp a)
  all_goals rfl

theorem busRead_frame (sp : Space) (a : Addr) : Frame [] s (s.busRead sp a).2 where
  surroundings := {
    ir0 := busRead_ir0 s sp a
    wa := busRead_wa s sp a
    inPins := busRead_inPins s sp a
    board := busRead_board s sp a
    script := busRead_script s sp a
    untilTimer := busRead_untilTimer s sp a
    ir1_set := fun h => (busRead_ir1 s sp a).trans h
    ir2_set := fun h => by rw [busRead_ir2, h]; rfl
    controllers := fun hc _ => busRead_controllers s hc sp a }
  same q _ := by
    cases q
    case out => exact fun hc hd => busRead_out s hc hd sp a
    all_goals simp

theorem busWrite_frame (sp : Space) (a : Addr) (b : Byte) : Frame [] s (s.busWrite sp a b) where
  surroundings := {
    ir0 := busWrite_ir0 s sp a b
    wa := busWrite_wa s sp a b
    inPins := busWrite_inPins s sp a b
    board := busWrite_board s sp a b
    script := busWrite_script s sp a b
    untilTimer := busWrite_untilTimer s sp a b
    ir1_set := fun h => (busWrite_ir1 s sp a b).trans h
    ir2_set := fun h => by rw [busWrite_ir2, h]; rfl
    controllers := fun hc _ => busWrite_controllers s hc sp a b }
  same q _ := by
    cases q
    case out => exact fun hc hd => busWrite_out s hc hd sp a b
    all_goals simp

/-- The parts an operand is. -/
def Operand.slots : Operand → List Slot
  | .reg r => [r.slot]
  | _ => []

theorem readOperand_frame (o : Operand) : Frame [] s (s.readOperand o).2 := by
  cases o with
  | reg r => exact .refl s
  | ind sp r => exact busRead_frame s sp _
  | abs sp a b => exact busRead_frame s sp _

theorem writeOperand_frame (o : Operand) (b : Byte) : Frame o.slots s (s.writeOperand o b) := by
  cases o with
  | reg r => exact setReg_frame s r b
  | ind sp r => exact busWrite_frame s sp _ b
  | abs sp a' b' => exact busWrite_frame s sp _ b

theorem push_frame (b : Byte) : Frame [.sp] s (s.push b) := (busWrite_frame s .me0 _ b).trans (with_sp_frame _ _)

theorem pop_frame : Frame [.sp] s s.pop.2 := (with_sp_frame s _).trans (busRead_frame _ .me0 _)

theorem push16_frame (v : Addr) : Frame [.sp] s (s.push16 v) :=
  ((push_frame s _).trans (push_frame _ _)).mono (by simp)

theorem pop16_frame : Frame [.sp] s s.pop16.2 := ((pop_frame s).trans (pop_frame _)).mono (by simp)

theorem readVector_frame (a : Addr) : Frame [] s (s.readVector a).2 :=
  (busRead_frame s .me0 a).trans (busRead_frame _ .me0 _)

theorem popP_frame : Frame [.sp, .p] s s.popP := (pop16_frame s).trans (with_p_frame _ _)

theorem returnFromInterrupt_frame : Frame [.c, .ie, .z, .v, .h, .sp, .p] s s.returnFromInterrupt :=
  (((popP_frame s).trans (pop_frame _)).trans (setT_frame _ _)).mono (by simp)

theorem vectorCall_frame (i : Byte) : Frame [.z, .sp, .p] s (s.vectorCall i) := by
  have hread := (push16_frame s s.p).trans (readVector_frame _ (ofBytes 0xFF#8 i))
  have hp := hread.trans (with_p_frame _ ((s.push16 s.p).readVector (ofBytes 0xFF#8 i)).1)
  exact (hp.trans (with_z_frame _ false)).mono (by simp)

end

/-! ### The rule of each shared meaning -/

section
variable {o : Operand} {i : Byte} {r : Reg8} {p : Pair} {d : Addr} {sp : Space} {cond : Bool} {f : Byte → Byte → Byte}

theorem adc_frame (h : adc o s = .next t) : Frame [.a, .c, .h, .v, .z] s t := by
  unfold adc at h; cases h
  exact ((readOperand_frame s o).trans (with_a_frame _ _)).trans (setFlags_frame _ _)

theorem adiA_frame (h : adiA i s = .next t) : Frame [.a, .c, .h, .v, .z] s t := by
  unfold adiA at h; cases h
  exact (with_a_frame s _).trans (setFlags_frame _ _)

theorem adiMem_frame (h : adiMem o i s = .next t) : Frame (o.slots ++ [.c, .h, .v, .z]) s t := by
  unfold adiMem at h; cases h
  exact ((readOperand_frame s o).trans (writeOperand_frame _ o _)).trans (setFlags_frame _ _)

theorem dca_frame (h : dca o s = .next t) : Frame [.a, .c, .h, .v, .z] s t := by
  unfold dca at h; cases h
  exact ((readOperand_frame s o).trans (with_a_frame _ _)).trans (setFlags_frame _ _)

theorem adr_frame (h : adr p s = .next t) : Frame [p.lo.slot, p.hi.slot, .c, .h, .v, .z] s t := by
  unfold adr at h; cases h
  exact (((setReg_frame s p.lo _).trans (setFlags_frame _ _)).trans (setReg_frame _ p.hi _)).mono (by simp)

theorem sbc_frame (h : sbc o s = .next t) : Frame [.a, .c, .h, .v, .z] s t := by
  unfold sbc at h; cases h
  exact ((readOperand_frame s o).trans (with_a_frame _ _)).trans (setFlags_frame _ _)

theorem sbiA_frame (h : sbiA i s = .next t) : Frame [.a, .c, .h, .v, .z] s t := by
  unfold sbiA at h; cases h
  exact (with_a_frame s _).trans (setFlags_frame _ _)

theorem dcs_frame (h : dcs o s = .next t) : Frame [.a, .c, .h, .v, .z] s t := by
  unfold dcs at h; cases h
  exact ((readOperand_frame s o).trans (with_a_frame _ _)).trans (setFlags_frame _ _)

theorem logicToA_frame (h : logicToA f o s = .next t) : Frame [.a, .z] s t := by
  unfold logicToA at h; cases h
  exact ((readOperand_frame s o).trans (with_a_frame _ _)).trans (setZ_frame _ _)

theorem logicImmA_frame (h : logicImmA f i s = .next t) : Frame [.a, .z] s t := by
  unfold logicImmA at h; cases h
  exact (with_a_frame s _).trans (setZ_frame _ _)

theorem logicImmMem_frame (h : logicImmMem f o i s = .next t) : Frame (o.slots ++ [.z]) s t := by
  unfold logicImmMem at h; cases h
  exact ((readOperand_frame s o).trans (writeOperand_frame _ o _)).trans (setZ_frame _ _)

theorem inc8_frame (h : inc8 r s = .next t) : Frame [r.slot, .c, .h, .v, .z] s t := by
  unfold inc8 at h; cases h
  exact (setReg_frame s r _).trans (setFlags_frame _ _)

theorem dec8_frame (h : dec8 r s = .next t) : Frame [r.slot, .c, .h, .v, .z] s t := by
  unfold dec8 at h; cases h
  exact (setReg_frame s r _).trans (setFlags_frame _ _)

theorem inc16_frame (h : inc16 p s = .next t) : Frame [p.lo.slot, p.hi.slot] s t := by
  unfold inc16 at h; cases h
  exact setPair_frame s p _

theorem dec16_frame (h : dec16 p s = .next t) : Frame [p.lo.slot, p.hi.slot] s t := by
  unfold dec16 at h; cases h
  exact setPair_frame s p _

theorem cpa_frame (h : cpa o s = .next t) : Frame [.c, .h, .v, .z] s t := by
  unfold cpa at h; cases h
  exact (readOperand_frame s o).trans (setFlags_frame _ _)

theorem cpi_frame (h : cpi r i s = .next t) : Frame [.c, .h, .v, .z] s t := by
  unfold cpi at h; cases h
  exact setFlags_frame s _

theorem bit_frame (h : bit o s = .next t) : Frame [.z] s t := by
  unfold bit at h; cases h
  exact (readOperand_frame s o).trans (setZ_frame _ _)

theorem bii_frame (h : bii o i s = .next t) : Frame [.z] s t := by
  unfold bii at h; cases h
  exact (readOperand_frame s o).trans (setZ_frame _ _)

theorem lda_frame (h : lda o s = .next t) : Frame [.a, .z] s t := by
  unfold lda at h; cases h
  exact ((readOperand_frame s o).trans (with_a_frame _ _)).trans (setZ_frame _ _)

theorem loadStep_frame (h : loadStep p d s = .next t) : Frame [.a, p.lo.slot, p.hi.slot, .z] s t := by
  unfold loadStep at h; cases h
  exact (((readOperand_frame s _).trans (with_a_frame _ _)).trans (setPair_frame _ p _)).trans (setZ_frame _ _)

theorem ldiA_frame (h : ldiA i s = .next t) : Frame [.a, .z] s t := by
  unfold ldiA at h; cases h
  exact (with_a_frame s _).trans (setZ_frame _ _)

theorem sta_frame (h : sta o s = .next t) : Frame o.slots s t := by
  unfold sta at h; cases h
  exact writeOperand_frame s o _

theorem storeStep_frame (h : storeStep p d s = .next t) : Frame [p.lo.slot, p.hi.slot] s t := by
  unfold storeStep at h; cases h
  exact (writeOperand_frame s (.ind .me0 p) _).trans (setPair_frame _ p _)

theorem popA_frame (h : popA s = .next t) : Frame [.a, .z, .sp] s t := by
  unfold popA at h; cases h
  exact (((pop_frame s).trans (with_a_frame _ _)).trans (setZ_frame _ _)).mono (by simp)

theorem popPair_frame (h : popPair p s = .next t) : Frame [p.lo.slot, p.hi.slot, .sp] s t := by
  unfold popPair at h; cases h
  exact ((pop16_frame s).trans (setPair_frame _ p _)).mono (by simp)

theorem tin_frame (h : tin s = .next t) : Frame [.xl, .xh, .yl, .yh] s t := by
  unfold tin at h; cases h
  exact (((readOperand_frame s (.ind .me0 .x)).trans (writeOperand_frame _ (.ind .me0 .y) _)).trans
    (setPair_frame _ .x _)).trans (setPair_frame _ .y _)

theorem cin_frame (h : cin s = .next t) : Frame [.xl, .xh, .c, .h, .v, .z] s t := by
  unfold cin at h; cases h
  exact (((readOperand_frame s (.ind .me0 .x)).trans (setFlags_frame _ _)).trans (setPair_frame _ .x _)).mono
    (by simp [Pair.lo, Pair.hi, Reg8.slot])

theorem shiftA_frame {out : Bool} (h : shiftA out i s = .next t) : Frame [.a, .c, .h, .v, .z] s t := by
  unfold shiftA at h; cases h
  exact (with_a_frame s _).trans (setShiftFlags_frame _ _)

theorem drl_frame (h : drl sp s = .next t) : Frame [.a] s t := by
  unfold drl at h; cases h
  exact ((readOperand_frame s _).trans (writeOperand_frame _ (.ind sp .x) _)).trans (with_a_frame _ _)

theorem drr_frame (h : drr sp s = .next t) : Frame [.a] s t := by
  unfold drr at h; cases h
  exact ((readOperand_frame s _).trans (writeOperand_frame _ (.ind sp .x) _)).trans (with_a_frame _ _)

theorem branchForward_frame (h : branchForward cond i s = .next t) : Frame [.p] s t := by
  unfold branchForward at h; cases h
  split
  · exact with_p_frame s _
  · exact (Frame.refl s).mono (List.nil_subset _)

theorem branchBack_frame (h : branchBack cond i s = .next t) : Frame [.p] s t := by
  unfold branchBack at h; cases h
  split
  · exact with_p_frame s _
  · exact (Frame.refl s).mono (List.nil_subset _)

theorem lop_frame (h : lop i s = .next t) : Frame [.ul, .p] s t := by
  unfold lop at h; cases h
  have hul : Frame [.ul] s { s with ul := s.ul - 1 } := setReg_frame s .ul _
  split
  · exact hul.mono (by simp)
  · exact hul.trans (with_p_frame _ _)

theorem sjp_frame {j : Byte} (h : execSjp i j s = .next t) : Frame [.sp, .p] s t := by
  unfold execSjp at h; cases h
  exact (push16_frame s _).trans (with_p_frame _ _)

theorem vectorCallIf_frame (h : vectorCallIf cond i s = .next t) : Frame [.z, .sp, .p] s t := by
  unfold vectorCallIf at h
  split at h
  · split at h
    · cases h
      exact vectorCall_frame s i
    · cases h
  · cases h
    exact (Frame.refl s).mono (List.nil_subset _)

/-- The port instruction writes the list `out`, and the controllers the board wires to it. -/
theorem atp_frame (h : atp s = .next t) : Frame [.out] s t := by
  unfold atp at h; cases h
  refine ⟨⟨by simp, by simp, by simp, by simp, by simp, by simp, by simp, fun hr => ?ir2, fun _ hl => ?controllers⟩,
    fun q hq => by cases q <;> simp_all⟩
  case ir2 => rw [latchPorts_ir2]; exact hr
  case controllers => simp only [hl, State.latchPorts, and_self]

theorem am1_frame (h : am1 s = .next t) : Frame [.tm, .ir1] s t := by
  unfold am1 at h; cases h
  split
  · exact ⟨⟨rfl, rfl, rfl, rfl, rfl, rfl, fun hr => by simp [hr], id, fun _ _ => ⟨rfl, rfl⟩⟩,
      fun q hq => by cases q <;> simp_all⟩
  · exact .of_update rfl fun q hq => by cases q <;> simp_all

theorem off_frame (h : execOff s = .next t) : Frame [.bf, .out] s t := by
  unfold execOff at h; cases h
  exact .of_update rfl fun q hq => by cases q <;> simp_all

end

/-! ### What each instruction may write -/

/-- The parts an instruction may write beside registers, flags, S and P. -/
def controlWritten (i : Instr) : List Slot :=
  match i with
  | .am0 => [.tm]
  | .am1 => [.tm, .ir1]
  | .cdv => [.divider]
  | .spu | .rpu => [.pu]
  | .spv | .rpv => [.pv]
  | .sdp | .rdp => [.disp]
  | .off => [.bf, .out]
  | .hlt => [.halted]
  | .atp => [.out]
  | _ => []

/-- All parts an instruction may write. -/
def written (i : Instr) : List Slot :=
  (regsWritten i).map Reg8.slot ++ ((flagsWritten i).map Flag.slot ++
    ((if movesS i then [.sp] else []) ++ ((if movesP i then [.p] else []) ++ controlWritten i)))

/-- Every instruction leaves all as it was but the parts it may write: by its arm of `exec`, from the rule of the
meaning there. -/
theorem exec_frame {i : Instr} (h : exec i s = .next t) : Frame (written i) s t := by
  cases i with
  | adcXl | adcIndX | adcYl | adcIndY | adcUl | adcIndU | adcXh | adcYh | adcUh | adcAbs _ _ | adcInd1X
    | adcInd1Y | adcInd1U | adcAbs1 _ _ => exact adc_frame h
  | adiIndX _ | adiIndY _ | adiIndU _ | adiAbs _ _ _ | adiInd1X _ | adiInd1Y _ | adiInd1U _
    | adiAbs1 _ _ _ => exact adiMem_frame h
  | adiA _ => exact adiA_frame h
  | dcaIndX | dcaIndY | dcaIndU | dcaInd1X | dcaInd1Y | dcaInd1U => exact dca_frame h
  | adrX | adrY | adrU => exact adr_frame h
  | sbcXl | sbcIndX | sbcYl | sbcIndY | sbcUl | sbcIndU | sbcXh | sbcYh | sbcUh | sbcAbs _ _ | sbcInd1X
    | sbcInd1Y | sbcInd1U | sbcAbs1 _ _ => exact sbc_frame h
  | sbiA _ => exact sbiA_frame h
  | dcsIndX | dcsIndY | dcsIndU | dcsInd1X | dcsInd1Y | dcsInd1U => exact dcs_frame h
  | andIndX | andIndY | andIndU | andAbs _ _ | andInd1X | andInd1Y | andInd1U | andAbs1 _ _ | oraIndX
    | oraIndY | oraIndU | oraAbs _ _ | oraInd1X | oraInd1Y | oraInd1U | oraAbs1 _ _ | eorIndX | eorIndY
    | eorIndU | eorAbs _ _ | eorInd1X | eorInd1Y | eorInd1U | eorAbs1 _ _ => exact logicToA_frame h
  | aniIndX _ | aniIndY _ | aniIndU _ | aniAbs _ _ _ | aniInd1X _ | aniInd1Y _ | aniInd1U _ | aniAbs1 _ _ _
    | oriIndX _ | oriIndY _ | oriIndU _ | oriAbs _ _ _ | oriInd1X _ | oriInd1Y _ | oriInd1U _
    | oriAbs1 _ _ _ => exact logicImmMem_frame h
  | aniA _ | oriA _ | eai _ => exact logicImmA_frame h
  | incXl | incYl | incUl | incA | incXh | incYh | incUh => exact inc8_frame h
  | incX | incY | incU => exact inc16_frame h
  | decXl | decYl | decUl | decA | decXh | decYh | decUh => exact dec8_frame h
  | decX | decY | decU => exact dec16_frame h
  | cpaXl | cpaIndX | cpaYl | cpaIndY | cpaUl | cpaIndU | cpaXh | cpaYh | cpaUh | cpaAbs _ _ | cpaInd1X
    | cpaInd1Y | cpaInd1U | cpaAbs1 _ _ => exact cpa_frame h
  | cpiXh _ | cpiXl _ | cpiYh _ | cpiYl _ | cpiUh _ | cpiUl _ | cpiA _ => exact cpi_frame h
  | bitIndX | bitIndY | bitIndU | bitAbs _ _ | bitInd1X | bitInd1Y | bitInd1U | bitAbs1 _ _ => exact bit_frame h
  | biiIndX _ | biiIndY _ | biiIndU _ | biiA _ | biiAbs _ _ _ | biiInd1X _ | biiInd1Y _ | biiInd1U _
    | biiAbs1 _ _ _ => exact bii_frame h
  | ldaXl | ldaIndX | ldaYl | ldaIndY | ldaUl | ldaIndU | ldaXh | ldaYh | ldaUh | ldaAbs _ _ | ldaInd1X
    | ldaInd1Y | ldaInd1U | ldaAbs1 _ _ => exact lda_frame h
  | ldeX | ldeY | ldeU | linX | linY | linU => exact loadStep_frame h
  | ldiA _ => exact ldiA_frame h
  | staXh | staXl | staIndX | staYh | staYl | staIndY | staUh | staUl | staIndU | staAbs _ _ | staInd1X
    | staInd1Y | staInd1U | staAbs1 _ _ => exact sta_frame h
  | sdeX | sdeY | sdeU | sinX | sinY | sinU => exact storeStep_frame h
  | popX | popY | popU => exact popPair_frame h
  | popA => exact popA_frame h
  | tin => exact tin_frame h
  | cin => exact cin_frame h
  | rol | ror | shl | shr => exact shiftA_frame h
  | drlIndX | drlInd1X => exact drl_frame h
  | drrIndX | drrInd1X => exact drr_frame h
  | bchFwd _ | bcsFwd _ | bcrFwd _ | bhsFwd _ | bhrFwd _ | bzsFwd _ | bzrFwd _ | bvsFwd _
    | bvrFwd _ => exact branchForward_frame h
  | bchBack _ | bcsBack _ | bcrBack _ | bhsBack _ | bhrBack _ | bzsBack _ | bzrBack _ | bvsBack _
    | bvrBack _ => exact branchBack_frame h
  | lop _ => exact lop_frame h
  | vmj j => exact vectorCallIf_frame (cond := true) (i := j) h
  | vcs _ | vcr _ | vhs _ | vhr _ | vzs _ | vzr _ | vvs _ => exact vectorCallIf_frame h
  | atp => exact atp_frame h
  | am1 => exact am1_frame h
  | sjp _ _ => exact sjp_frame h
  | off => exact off_frame h
  | ldiXh _ | ldiXl _ | ldiYh _ | ldiYl _ | ldiUh _ | ldiUl _ => cases h; exact setReg_frame s _ _
  | ldiS _ _ | stxS => cases h; exact with_sp_frame s _
  | ldxX | stxX | ldxY | ldxU | ldxS | ldxP => cases h; exact setPair_frame s .x _
  | stxY => cases h; exact setPair_frame s .y _
  | stxU => cases h; exact setPair_frame s .u _
  | stxP | jmp _ _ => cases h; exact with_p_frame s _
  | pshX | pshY | pshU => cases h; exact push16_frame s _
  | pshA => cases h; exact push_frame s _
  | att => cases h; exact setT_frame s _
  | tta | ita => cases h; exact (with_a_frame s _).trans (setZ_frame _ _)
  | aex => cases h; exact with_a_frame s _
  | secC | recC => cases h; exact with_c_frame s _
  | sie | rie => cases h; exact with_ie_frame s _
  | am0 => cases h; exact with_tm_frame s _
  | cdv => cases h; exact with_divider_frame s _
  | spu | rpu => cases h; exact with_pu_frame s _
  | spv | rpv => cases h; exact with_pv_frame s _
  | sdp | rdp => cases h; exact with_disp_frame s _
  | hlt => cases h; exact with_halted_frame s _
  | nop => cases h; exact .refl s
  | vejC0 | vejC2 | vejC4 | vejC6 | vejC8 | vejCA | vejCC | vejCE | vejD0 | vejD2 | vejD4 | vejD6 | vejD8
    | vejDA | vejDC | vejDE | vejE0 | vejE2 | vejE4 | vejE6 | vejE8 | vejEA | vejEC | vejEE | vejF0 | vejF2
    | vejF4 | vejF6 => cases h; exact vectorCall_frame s _
  | rtn => cases h; exact popP_frame s
  | rti => cases h; exact returnFromInterrupt_frame s

/-! ### Which instructions write a part -/

/-- The instructions that may write a part beside registers, flags, S and P (R22 to R27). -/
def Slot.writers : Slot → List Instr
  | .tm => [.am0, .am1]
  | .divider => [.cdv]
  | .pu => [.spu, .rpu]
  | .pv => [.spv, .rpv]
  | .disp => [.sdp, .rdp]
  | .bf => [.off]
  | .halted => [.hlt]
  | .ir1 => [.am1]
  | .out => [.atp, .off]
  | _ => []

theorem mem_writers_of_mem_controlWritten {q : Slot} {i : Instr} (h : q ∈ controlWritten i) : i ∈ q.writers := by
  unfold controlWritten at h
  split at h <;> simp only [List.mem_cons, List.not_mem_nil, or_false] at h
  case h_2 | h_10 => obtain rfl | rfl := h <;> simp [Slot.writers]
  all_goals simp [h, Slot.writers]

theorem mem_written {q : Slot} {i : Instr} (h : q ∈ written i) :
    (∃ r ∈ regsWritten i, r.slot = q) ∨ (∃ f ∈ flagsWritten i, f.slot = q) ∨ (q = .sp ∧ movesS i = true) ∨
    (q = .p ∧ movesP i = true) ∨ i ∈ q.writers := by
  simp only [written, List.mem_append, List.mem_map, List.mem_ite_nil_right, List.mem_singleton] at h
  obtain h | h | ⟨hi, hq⟩ | ⟨hi, hq⟩ | h := h
  · exact .inl h
  · exact .inr (.inl h)
  · exact .inr (.inr (.inl ⟨hq, hi⟩))
  · exact .inr (.inr (.inr (.inl ⟨hq, hi⟩)))
  · exact .inr (.inr (.inr (.inr (mem_writers_of_mem_controlWritten h))))

theorem Reg8.slot_injective : Function.Injective Reg8.slot := by
  intro r r' h
  cases r <;> cases r' <;> simp_all [Reg8.slot]

theorem Flag.slot_injective : Function.Injective Flag.slot := by
  intro f f' h
  cases f <;> cases f' <;> simp_all [Flag.slot]

theorem Flag.slot_ne_reg (f : Flag) (r : Reg8) : f.slot ≠ r.slot := by
  cases f <;> cases r <;> nofun

theorem reg_mem_regsWritten {r : Reg8} {i : Instr} (h : r.slot ∈ written i) : r ∈ regsWritten i := by
  obtain ⟨r', hr', e⟩ | ⟨f, -, e⟩ | ⟨e, -⟩ | ⟨e, -⟩ | hw := mem_written h
  · exact Reg8.slot_injective e ▸ hr'
  · exact absurd e (f.slot_ne_reg r)
  all_goals cases r <;> simp_all [Reg8.slot, Slot.writers]

theorem flag_mem_flagsWritten {f : Flag} {i : Instr} (h : f.slot ∈ written i) : f ∈ flagsWritten i := by
  obtain ⟨r, -, e⟩ | ⟨f', hf', e⟩ | ⟨e, -⟩ | ⟨e, -⟩ | hw := mem_written h
  · exact absurd e.symm (f.slot_ne_reg r)
  · exact Flag.slot_injective e ▸ hf'
  all_goals cases f <;> simp_all [Flag.slot, Slot.writers]

theorem movesS_of_mem_written {i : Instr} (h : .sp ∈ written i) : movesS i = true := by
  obtain ⟨r, -, e⟩ | ⟨f, -, e⟩ | ⟨-, hi⟩ | ⟨e, -⟩ | hw := mem_written h
  · cases r <;> cases e
  · cases f <;> cases e
  · exact hi
  · cases e
  · cases hw

theorem movesP_of_mem_written {i : Instr} (h : .p ∈ written i) : movesP i = true := by
  obtain ⟨r, -, e⟩ | ⟨f, -, e⟩ | ⟨e, -⟩ | ⟨-, hi⟩ | hw := mem_written h
  · cases r <;> cases e
  · cases f <;> cases e
  · cases e
  · exact hi
  · cases hw

/-- A part that is no register or flag, S or P, is written by its writers alone. -/
theorem mem_writers_of_mem_written {q : Slot} {i : Instr} (h : q ∈ written i) (hq : q.writers ≠ []) :
    i ∈ q.writers := by
  obtain ⟨r, -, e⟩ | ⟨f, -, e⟩ | ⟨e, -⟩ | ⟨e, -⟩ | hw := mem_written h
  · cases r <;> exact absurd (e ▸ rfl) hq
  · cases f <;> exact absurd (e ▸ rfl) hq
  · exact absurd (e ▸ rfl) hq
  · exact absurd (e ▸ rfl) hq
  · exact hw

/-- A part with writers of its own is as before after every other instruction. -/
theorem exec_same {q : Slot} {i : Instr} (h : exec i s = .next t) (hq : q.writers ≠ []) (hi : i ∉ q.writers) :
    q.Same s t :=
  (exec_frame h).same q fun hmem => hi (mem_writers_of_mem_written hmem hq)

/-! ### The three frames -/

/-- Settles O46: the parts an instruction may write hold just the registers of `regsWritten`, and S and P where
`movesS` and `movesP` say so. -/
theorem registerFrame : Obligations.RegisterFrame := by
  intro i s t h
  have hframe := exec_frame h
  refine ⟨fun r hr => hframe.reg (mt reg_mem_regsWritten hr), fun hs => hframe.same .sp fun hmem => ?_,
    fun hp => hframe.same .p fun hmem => ?_⟩
  · exact Bool.noConfusion (hs.symm.trans (movesS_of_mem_written hmem))
  · exact Bool.noConfusion (hp.symm.trans (movesP_of_mem_written hmem))

/-- Settles O47: the parts an instruction may write hold just the flags of `flagsWritten`. -/
theorem flagFrame : Obligations.FlagFrame := by
  intro i s t f h hf
  exact (exec_frame h).flag (mt flag_mem_flagsWritten hf)

/-- Settles O48: each part of the control state has its own writers, and the surroundings have none. -/
theorem controlFrame : Obligations.ControlFrame := by
  intro i s t h
  obtain ⟨hir0, hwa, hin, hboard, hscript, hturn, hir1, hir2, hiocs⟩ := (exec_frame h).surroundings
  have two {q : Slot} {x y : Instr} (hq : q.writers = [x, y]) (hx : i ≠ x) (hy : i ≠ y) : q.Same s t :=
    exec_same h (by simp [hq]) (by simp [hq, hx, hy])
  have one {q : Slot} {x : Instr} (hq : q.writers = [x]) (hx : i ≠ x) : q.Same s t :=
    exec_same h (by simp [hq]) (by simp [hq, hx])
  refine ⟨two (q := .tm) rfl, one (q := .divider) rfl, two (q := .pu) rfl, two (q := .pv) rfl, two (q := .disp) rfl,
    one (q := .bf) rfl, one (q := .halted) rfl, hir0, hwa, hin, hboard, hscript, hturn, one (q := .ir1) rfl, hir1, hir2,
    fun hc hl => ?_⟩
  obtain ⟨hsame, hrequest⟩ := hiocs hc hl
  exact ⟨hsame, hrequest, fun hd hatp hoff => two (q := .out) rfl hatp hoff hc hd⟩

end Sys2Proof.Machine
end

section
/-! PROOFS. What is written to memory (20_memory.md R45, R48): by a bus cycle, by an instruction and by a step. One
relation `Memory.WritesTo` says it, and from it follow the canonical form, the frame of memory and that ROM stays. -/

namespace Sys2Proof.Machine

/-! ### Writes to a set of cells -/

/-- A memory that comes from `m` by writes, any number of them, to cells of `C`. -/
inductive Memory.WritesTo (C : Set Nat) (m : Memory) : Memory → Prop
  | refl : WritesTo C m m
  | write {m' : Memory} {k : Nat} (v : Byte) : WritesTo C m m' → k ∈ C → WritesTo C m (m'.write k v)

/-- The cells a write reaches at these bus addresses. -/
def State.cellsAt (s : State) (W : Set (Space × Addr)) : Set Nat := {k | ∃ w ∈ W, s.ramCell w.1 w.2 = some k}

variable {s t : State} {m m' m'' : Memory} {C D : Set Nat} {W : Set (Space × Addr)}

namespace Memory.WritesTo

theorem of_eq (h : m' = m) : WritesTo C m m' := h ▸ refl

theorem mono (h : WritesTo C m m') (hCD : C ⊆ D) : WritesTo D m m' := by
  induction h with
  | refl => exact refl
  | write v _ hk ih => exact ih.write v (hCD hk)

theorem trans (h : WritesTo C m m') (h' : WritesTo C m' m'') : WritesTo C m m'' := by
  induction h' with
  | refl => exact h
  | write v _ hk ih => exact ih.write v hk

/-- Writes keep the canonical form. -/
theorem wf (h : WritesTo C m m') (hm : m.wf = true) : m'.wf = true := by
  induction h with
  | refl => exact hm
  | write v _ _ ih => exact Memory.wf_write ih _ v

/-- Writes leave every cell alone that is not among those written. -/
theorem read_eq (h : WritesTo C m m') {k : Nat} (hk : k ∉ C) : m'.read k = m.read k := by
  induction h with
  | refl => rfl
  | write v _ hj ih => exact (Memory.read_write_other _ v (ne_of_mem_of_not_mem hj hk).symm).trans ih

end Memory.WritesTo

open Memory (WritesTo)

/-- The cells depend on the board, PV, PU and BF alone. -/
theorem Frame.cellsAt {w : List Slot} (h : Frame w s t) (hpv : .pv ∉ w) (hpu : .pu ∉ w) (hbf : .bf ∉ w) :
    t.cellsAt W = s.cellsAt W := by
  have hcell := ramCell_congr h.surroundings.board (h.same .pv hpv) (h.same .pu hpu) (h.same .bf hbf)
  simp only [State.cellsAt, hcell]

/-! ### The rule of each state operation -/

theorem busWrite_writesTo (s : State) (v : Byte) {sp : Space} {a : Addr} (h : (sp, a) ∈ W) :
    WritesTo (s.cellsAt W) s.mem (s.busWrite sp a v).mem := by
  rw [busWrite_mem]
  split
  case h_1 k hk => exact .write v .refl ⟨_, h, hk⟩
  case h_2 => exact .refl

theorem writeOperand_writesTo (s : State) (o : Operand) (v : Byte) (h : ∀ w ∈ o.address s, w ∈ W) :
    WritesTo (s.cellsAt W) s.mem (s.writeOperand o v).mem := by
  cases o with
  | reg r => exact .of_eq (setReg_mem s r v)
  | ind sp p => exact busWrite_writesTo s v (h _ rfl)
  | abs sp a b => exact busWrite_writesTo s v (h _ rfl)

theorem push_writesTo (s : State) (v : Byte) (h : (.me0, s.sp) ∈ W) :
    WritesTo (s.cellsAt W) s.mem (s.push v).mem := busWrite_writesTo s v h

theorem push16_writesTo (s : State) (v : Addr) (h0 : (.me0, s.sp) ∈ W) (h1 : (.me0, s.sp - 1) ∈ W) :
    WritesTo (s.cellsAt W) s.mem (s.push16 v).mem := by
  have hlow := push_writesTo s (loByte v) h0
  have hhigh := push_writesTo (s.push (loByte v)) (hiByte v) (W := W) (by simpa using h1)
  rw [(push_frame s _).cellsAt (by simp) (by simp) (by simp)] at hhigh
  exact hlow.trans hhigh

/-! ### What an instruction writes -/

/-- The cells of the addresses an instruction stores to. -/
def State.storedCells (s : State) (i : Instr) : Set Nat := s.cellsAt {w | w ∈ storedAddresses i s}

section
variable {i : Instr}

/-- A byte pushed is stored at S, the next at S - 1. -/
theorem pushed_mem_storedAddresses {n : Nat} (h : n < pushes i s) :
    (.me0, s.sp - BitVec.ofNat 16 n) ∈ storedAddresses i s :=
  List.mem_append_right _ (List.mem_map.mpr ⟨n, List.mem_range.mpr h, rfl⟩)

/-- An instruction that writes an operand, in memory or not, writes the cell of `storedAddresses`. -/
theorem operand_writesTo {o : Operand} (h : ∃ v, t.mem = (s.writeOperand o v).mem)
    (ho : o.address s = (storedOperand i).bind fun o => o.address s) : WritesTo (s.storedCells i) s.mem t.mem := by
  obtain ⟨v, hv⟩ := h
  rw [hv]
  exact writeOperand_writesTo s o v fun w hw => List.mem_append_left _ (Option.mem_toList.mpr (ho ▸ hw))

/-- An instruction that pushes 16 bits writes the two cells of `storedAddresses`. -/
theorem pushed16_writesTo {v : Addr} (h : t.mem = (s.push16 v).mem) (hi : pushes i s = 2) :
    WritesTo (s.storedCells i) s.mem t.mem := by
  rw [h]
  refine push16_writesTo s v ?_ ?_
  · have h0 := pushed_mem_storedAddresses (i := i) (s := s) (n := 0) (by omega)
    simpa using h0
  · exact pushed_mem_storedAddresses (i := i) (s := s) (n := 1) (by omega)

theorem pushed_writesTo {v : Byte} (h : t.mem = (s.push v).mem) (hi : pushes i s = 1) :
    WritesTo (s.storedCells i) s.mem t.mem := by
  rw [h]
  have h0 := pushed_mem_storedAddresses (i := i) (s := s) (n := 0) (by omega)
  exact push_writesTo s v (by simpa using h0)

/-- A conditional vector call writes the stack where it is made. -/
theorem vectorCallIf_writesTo {c : Bool} {j : Byte} (h : vectorCallIf c j s = .next t)
    (hi : pushes i s = if c then 2 else 0) : WritesTo (s.storedCells i) s.mem t.mem := by
  have hmem := vectorCallIf_mem h
  cases c with
  | true => exact pushed16_writesTo hmem hi
  | false => exact .of_eq hmem

end

/-- Every instruction writes to the cells of the addresses it stores to alone: by its arm of `exec`, from what the
meaning there leaves in memory. -/
theorem exec_writesTo {i : Instr} (h : exec i s = .next t) : WritesTo (s.storedCells i) s.mem t.mem := by
  cases i with
  | adcXl | adcIndX | adcYl | adcIndY | adcUl | adcIndU | adcXh | adcYh | adcUh | adcAbs _ _ | adcInd1X
    | adcInd1Y | adcInd1U | adcAbs1 _ _ => exact .of_eq (adc_mem h)
  | adiIndX _ | adiIndY _ | adiIndU _ | adiAbs _ _ _ | adiInd1X _ | adiInd1Y _ | adiInd1U _
    | adiAbs1 _ _ _ => exact operand_writesTo (adiMem_mem h) rfl
  | adiA _ => exact .of_eq (adiA_mem h)
  | dcaIndX | dcaIndY | dcaIndU | dcaInd1X | dcaInd1Y | dcaInd1U => exact .of_eq (dca_mem h)
  | adrX | adrY | adrU => exact .of_eq (adr_mem h)
  | sbcXl | sbcIndX | sbcYl | sbcIndY | sbcUl | sbcIndU | sbcXh | sbcYh | sbcUh | sbcAbs _ _ | sbcInd1X
    | sbcInd1Y | sbcInd1U | sbcAbs1 _ _ => exact .of_eq (sbc_mem h)
  | sbiA _ => exact .of_eq (sbiA_mem h)
  | dcsIndX | dcsIndY | dcsIndU | dcsInd1X | dcsInd1Y | dcsInd1U => exact .of_eq (dcs_mem h)
  | andIndX | andIndY | andIndU | andAbs _ _ | andInd1X | andInd1Y | andInd1U | andAbs1 _ _ | oraIndX
    | oraIndY | oraIndU | oraAbs _ _ | oraInd1X | oraInd1Y | oraInd1U | oraAbs1 _ _ | eorIndX | eorIndY
    | eorIndU | eorAbs _ _ | eorInd1X | eorInd1Y | eorInd1U | eorAbs1 _ _ => exact .of_eq (logicToA_mem h)
  | aniIndX _ | aniIndY _ | aniIndU _ | aniAbs _ _ _ | aniInd1X _ | aniInd1Y _ | aniInd1U _ | aniAbs1 _ _ _
    | oriIndX _ | oriIndY _ | oriIndU _ | oriAbs _ _ _ | oriInd1X _ | oriInd1Y _ | oriInd1U _
    | oriAbs1 _ _ _ => exact operand_writesTo (logicImmMem_mem h) rfl
  | aniA _ | oriA _ | eai _ => exact .of_eq (logicImmA_mem h)
  | incXl | incYl | incUl | incA | incXh | incYh | incUh => exact .of_eq (inc8_mem h)
  | incX | incY | incU => exact .of_eq (inc16_mem h)
  | decXl | decYl | decUl | decA | decXh | decYh | decUh => exact .of_eq (dec8_mem h)
  | decX | decY | decU => exact .of_eq (dec16_mem h)
  | cpaXl | cpaIndX | cpaYl | cpaIndY | cpaUl | cpaIndU | cpaXh | cpaYh | cpaUh | cpaAbs _ _ | cpaInd1X
    | cpaInd1Y | cpaInd1U | cpaAbs1 _ _ => exact .of_eq (cpa_mem h)
  | cpiXh _ | cpiXl _ | cpiYh _ | cpiYl _ | cpiUh _ | cpiUl _ | cpiA _ => exact .of_eq (cpi_mem h)
  | bitIndX | bitIndY | bitIndU | bitAbs _ _ | bitInd1X | bitInd1Y | bitInd1U | bitAbs1 _ _ =>
    exact .of_eq (bit_mem h)
  | biiIndX _ | biiIndY _ | biiIndU _ | biiA _ | biiAbs _ _ _ | biiInd1X _ | biiInd1Y _ | biiInd1U _
    | biiAbs1 _ _ _ => exact .of_eq (bii_mem h)
  | ldaXl | ldaIndX | ldaYl | ldaIndY | ldaUl | ldaIndU | ldaXh | ldaYh | ldaUh | ldaAbs _ _ | ldaInd1X
    | ldaInd1Y | ldaInd1U | ldaAbs1 _ _ => exact .of_eq (lda_mem h)
  | ldeX | ldeY | ldeU | linX | linY | linU => exact .of_eq (loadStep_mem h)
  | ldiA _ => exact .of_eq (ldiA_mem h)
  | staXh | staXl | staIndX | staYh | staYl | staIndY | staUh | staUl | staIndU | staAbs _ _ | staInd1X
    | staInd1Y | staInd1U | staAbs1 _ _ => exact operand_writesTo ⟨_, sta_mem h⟩ rfl
  | sdeX | sdeY | sdeU | sinX | sinY | sinU => exact operand_writesTo ⟨_, storeStep_mem h⟩ rfl
  | popX | popY | popU => exact .of_eq (popPair_mem h)
  | popA => exact .of_eq (popA_mem h)
  | tin => exact operand_writesTo (tin_mem h) rfl
  | cin => exact .of_eq (cin_mem h)
  | rol | ror | shl | shr => exact .of_eq (shiftA_mem h)
  | drlIndX | drlInd1X => exact operand_writesTo (drl_mem h) rfl
  | drrIndX | drrInd1X => exact operand_writesTo (drr_mem h) rfl
  | bchFwd _ | bcsFwd _ | bcrFwd _ | bhsFwd _ | bhrFwd _ | bzsFwd _ | bzrFwd _ | bvsFwd _
    | bvrFwd _ => exact .of_eq (branchForward_mem h)
  | bchBack _ | bcsBack _ | bcrBack _ | bhsBack _ | bhrBack _ | bzsBack _ | bzrBack _ | bvsBack _
    | bvrBack _ => exact .of_eq (branchBack_mem h)
  | lop _ => exact .of_eq (lop_mem h)
  | vmj j => exact vectorCallIf_writesTo (c := true) (j := j) h rfl
  | vcs _ | vcr _ | vhs _ | vhr _ | vzs _ | vzr _ | vvs _ => exact vectorCallIf_writesTo h rfl
  | vejC0 | vejC2 | vejC4 | vejC6 | vejC8 | vejCA | vejCC | vejCE | vejD0 | vejD2 | vejD4 | vejD6 | vejD8
    | vejDA | vejDC | vejDE | vejE0 | vejE2 | vejE4 | vejE6 | vejE8 | vejEA | vejEC | vejEE | vejF0 | vejF2
    | vejF4 | vejF6 => cases h; exact pushed16_writesTo (vectorCall_mem _) rfl
  | sjp _ _ | pshX | pshY | pshU => cases h; exact pushed16_writesTo rfl rfl
  | pshA => cases h; exact pushed_writesTo rfl rfl
  | atp => exact .of_eq (atp_mem h)
  | am1 => exact .of_eq (am1_mem h)
  | rtn => cases h; exact .of_eq (popP_mem s)
  | rti => cases h; exact .of_eq (returnFromInterrupt_mem s)
  | ldiXh _ | ldiXl _ | ldiYh _ | ldiYl _ | ldiUh _ | ldiUl _ => cases h; exact .of_eq (setReg_mem s _ _)
  | ldxX | stxX | ldxY | ldxU | ldxS | ldxP | stxY | stxU => cases h; exact .of_eq (setPair_mem s _ _)
  | ldiS _ _ | stxS | stxP | jmp _ _ | att | tta | ita | aex | secC | recC | sie | rie | am0 | cdv | spu | rpu
    | spv | rpv | sdp | rdp | hlt | nop | off => cases h; exact .of_eq rfl

/-- Settles O45: a cell of no stored address is none of those the instruction writes to. -/
theorem memoryFrame : Obligations.MemoryFrame := by
  intro i s t k h hk
  exact (exec_writesTo h).read_eq fun ⟨w, hw, hcell⟩ => hk w hw hcell

/-! ### What a step writes -/

/-- The cells a write reaches at some bus address. -/
def State.writableCells (s : State) : Set Nat := s.cellsAt Set.univ

theorem Frame.writableCells {w : List Slot} (h : Frame w s t) (hpv : .pv ∉ w) (hpu : .pu ∉ w) (hbf : .bf ∉ w) :
    t.writableCells = s.writableCells := h.cellsAt hpv hpu hbf

theorem fetch_frame (s : State) : Frame [.p] s s.fetch.2 := (busRead_frame s .me0 _).trans (with_p_frame _ _)

theorem fetchMany_frame (n : Nat) (s : State) : Frame [.p] s (State.fetchMany n s).2 := by
  induction n generalizing s with
  | zero => exact (Frame.refl s).mono (List.nil_subset _)
  | succ n ih => exact ((fetch_frame s).trans (ih s.fetch.2)).mono (by simp)

theorem fetchMany_mem (n : Nat) (s : State) : (State.fetchMany n s).2.mem = s.mem := by
  induction n generalizing s with
  | zero => rfl
  | succ n ih => exact (ih s.fetch.2).trans (fetch_mem s)

/-- The fetch of an instruction moves P alone, beside what its read cycles do at controllers and devices. -/
theorem fetchInstr_frame (s : State) : Frame [.p] s s.fetchInstr.2 := by
  unfold State.fetchInstr State.fetchBytes
  dsimp only
  split
  · exact (((fetch_frame s).trans (fetch_frame _)).trans (fetchMany_frame _ _)).mono (by simp)
  · exact ((fetch_frame s).trans (fetchMany_frame _ _)).mono (by simp)

theorem fetchInstr_mem (s : State) : s.fetchInstr.2.mem = s.mem := by
  unfold State.fetchInstr State.fetchBytes
  dsimp only
  split
  · rw [fetchMany_mem, fetch_mem, fetch_mem]
  · rw [fetchMany_mem, fetch_mem]

/-- What a push leaves in memory depends on memory, S and the map alone. -/
theorem push16_mem_congr (hm : t.mem = s.mem) (hsp : t.sp = s.sp) (hr : ∀ sp a, t.ramCell sp a = s.ramCell sp a)
    (w : Addr) : (t.push16 w).mem = (s.push16 w).mem := by
  simp only [push16_mem, busWrite_mem, ramCell_busWrite, hm, hsp, hr]

/-- Clearing IE and the request between the pushes of an interrupt entry does not show in memory. -/
theorem takeInterrupt_mem (s : State) (n : Interrupt) :
    (s.takeInterrupt n).mem = ((s.push s.t).push16 s.p).mem := by
  unfold State.takeInterrupt
  dsimp only
  rw [readVector_mem, clearRequest_p, push_p]
  exact push16_mem_congr (by simp) (by simp) (ramCell_congr (by simp) (by simp) (by simp) (by simp)) s.p

theorem takeInterrupt_writesTo (s : State) (n : Interrupt) :
    WritesTo s.writableCells s.mem (s.takeInterrupt n).mem := by
  have hT : WritesTo s.writableCells s.mem (s.push s.t).mem := push_writesTo s s.t trivial
  have hP : WritesTo (s.push s.t).writableCells (s.push s.t).mem ((s.push s.t).push16 s.p).mem :=
    push16_writesTo _ s.p trivial trivial
  rw [(push_frame s s.t).writableCells (by simp) (by simp) (by simp)] at hP
  exact takeInterrupt_mem s n ▸ hT.trans hP

theorem cpuStep_writesTo (h : s.cpuStep = .next t) : WritesTo s.writableCells s.mem t.mem := by
  obtain ⟨-, rfl⟩ | ⟨n, -, -, rfl⟩ | ⟨-, -, -, rfl⟩ | ⟨-, -, -, i, -, hexec⟩ := cpuStep_cases h
  · exact .refl
  · exact takeInterrupt_writesTo s n
  · exact .of_eq (by unfold State.stayHalted; split <;> rfl)
  · have hw := exec_writesTo hexec
    rw [fetchInstr_mem] at hw
    rw [← (fetchInstr_frame s).writableCells (by simp) (by simp) (by simp)]
    exact hw.mono fun k ⟨w, _, hk⟩ => ⟨w, trivial, hk⟩

theorem hostMove_mem {mv : Move} (h : s.hostMove mv = some t) : t.mem = s.mem := by
  cases mv with
  | cpu | busMaster => cases h
  | reset => cases h; exact resetCpu_mem s
  | ioc n e => cases h; cases e <;> rfl
  | _ => cases h; rfl

theorem popMove_writableCells (s : State) : s.popMove.writableCells = s.writableCells := by
  have hcell := ramCell_congr (popMove_board s) (popMove_pv s) (popMove_pu s) (popMove_bf s)
  simp only [State.writableCells, State.cellsAt, hcell]

/-- Every step of every agent writes to RAM cells alone. -/
theorem step_writesTo (h : step s = .next t) : WritesTo s.writableCells s.mem t.mem := by
  rw [← popMove_writableCells, ← popMove_mem]
  obtain ⟨-, hcpu⟩ | ⟨-, hhost⟩ := step_cases h
  · exact cpuStep_writesTo hcpu
  · exact .of_eq (hostMove_mem hhost)

/-- Settles O41: a step only writes, and every write keeps the canonical form. -/
theorem memoryStaysCanonical : Obligations.MemoryStaysCanonical :=
  fun _ _ hinv hstep => (step_writesTo hstep).wf hinv

/-! ### The board -/

theorem cpuStep_board (h : s.cpuStep = .next t) : t.board = s.board := by
  obtain ⟨-, rfl⟩ | ⟨n, -, -, rfl⟩ | ⟨-, -, -, rfl⟩ | ⟨-, -, -, i, -, hexec⟩ := cpuStep_cases h
  · rfl
  · simp [State.takeInterrupt]
  · unfold State.stayHalted; split <;> rfl
  · exact (exec_frame hexec).surroundings.board.trans (fetchInstr_frame s).surroundings.board

theorem hostMove_board {mv : Move} (h : s.hostMove mv = some t) : t.board = s.board := by
  cases mv with
  | cpu | busMaster => cases h
  | reset => cases h; simp [State.resetCpu]
  | ioc n e => cases h; cases e <;> rfl
  | _ => cases h; rfl

theorem step_board (h : step s = .next t) : t.board = s.board := by
  rw [← popMove_board s]
  obtain ⟨-, hcpu⟩ | ⟨-, hhost⟩ := step_cases h
  · exact cpuStep_board hcpu
  · exact hostMove_board hhost

/-- Settles O43: during a step the map answers by PV, PU and BF as they are at its start, and under those no address
writes the cell. -/
theorem romNeverChanges : Obligations.RomNeverChanges := by
  intro s t k hrom hstep
  have hk : k ∉ s.writableCells := fun ⟨w, _, hw⟩ => hrom s.pv s.pu s.bf w.1 w.2 hw
  exact ⟨(step_writesTo hstep).read_eq hk, step_board hstep⟩

end Sys2Proof.Machine
end

section
/-! PROOFS. What a bus cycle and the stack do by what stands at their addresses (20_memory.md R40, R43, R48, R50). -/

namespace Sys2Proof.Machine

/-! ### A read after a write -/

section
variable {s : State} {sp sp' : Space} {a b : Addr} {j k : Nat}

/-- A byte written at a RAM address is the byte of its cell, where memory is canonical. -/
theorem busWrite_read_same (h : s.Inv) (hk : s.ramCell sp a = some k) (v : Byte) :
    (s.busWrite sp a v).mem.read k = v := by
  rw [busWrite_of_ramCell v hk]
  exact Memory.read_write_same h k v

/-- A byte written at a RAM address is read back there. -/
theorem busRead_busWrite_same (h : s.Inv) (hk : s.ramCell sp a = some k) (v : Byte) :
    ((s.busWrite sp a v).busRead sp a).1 = v := by
  have hread : (s.busWrite sp a v).readCell sp a = some k := (readCell_busWrite ..).trans (readCell_of_ramCell hk)
  rw [busRead_of_readCell hread]
  exact busWrite_read_same h hk v

/-- A read at RAM or ROM whose cell a write does not reach answers as before it. -/
theorem busRead_busWrite_other (v : Byte) (hj : s.readCell sp' b = some j) (hne : s.ramCell sp a ≠ some j) :
    ((s.busWrite sp a v).busRead sp' b).1 = (s.busRead sp' b).1 := by
  have hread : (s.busWrite sp a v).readCell sp' b = some j := (readCell_busWrite ..).trans hj
  rw [busRead_of_readCell hread, busRead_of_readCell hj]
  exact busWrite_read_other s sp a v hne

end

/-- Settles O8: the write stores into one cell, and every read of a cell goes to memory. -/
theorem readAfterWrite : Obligations.ReadAfterWrite := by
  intro s sp a v k hinv hk
  refine ⟨busRead_busWrite_same hinv hk v, fun sp' b j hj hne => busRead_busWrite_other v hj ?_⟩
  rw [hk]
  exact fun e => hne (Option.some.inj e).symm

/-! ### The two spaces -/

/-- With an empty map every address is RAM of its space's bank. -/
theorem ramCell_of_map_nil {s : State} (h : s.board.map = []) (sp : Space) (a : Addr) :
    s.ramCell sp a = some (cellOf sp.bank a) := by
  simp [State.ramCell, State.resolve, h]

theorem Space.bank_inj {sp sp' : Space} (h : sp.bank = sp'.bank) : sp = sp' := by
  cases sp <;> cases sp' <;> simp_all [Space.bank]

/-- Each address of each space has a cell of its own. -/
theorem cellOf_bank_inj {sp sp' : Space} {a b : Addr} (h : cellOf sp.bank a = cellOf sp'.bank b) :
    sp = sp' ∧ a = b := by
  have ha := a.isLt
  have hb := b.isLt
  unfold cellOf at h
  exact ⟨Space.bank_inj (by omega), BitVec.eq_of_toNat_eq (by omega)⟩

/-- Settles O9: without a map an address is RAM, and its cell is no other address's. -/
theorem spacesAreSeparate : Obligations.SpacesAreSeparate := by
  intro s sp sp' a b v hinv hmap
  have hcell := ramCell_of_map_nil hmap
  split
  case isTrue h =>
    obtain ⟨rfl, rfl⟩ := h
    exact busRead_busWrite_same hinv (hcell sp' b) v
  case isFalse h =>
    refine busRead_busWrite_other v (readCell_of_ramCell (hcell sp' b)) ?_
    rw [hcell sp a]
    exact fun e => h ((cellOf_bank_inj (Option.some.inj e)).imp Eq.symm Eq.symm)

/-! ### The stack in RAM -/

section
variable {s : State} {j k : Nat}

theorem push_of_ramCell (hj : s.ramCell .me0 s.sp = some j) (v : Byte) :
    s.push v = { s with mem := s.mem.write j v, sp := s.sp - 1 } := by
  rw [push_eq, busWrite_of_ramCell v hj]

theorem push16_of_ramCell (hj : s.ramCell .me0 s.sp = some j) (hk : s.ramCell .me0 (s.sp - 1) = some k) (w : Addr) :
    s.push16 w = { s with mem := (s.mem.write j (loByte w)).write k (hiByte w), sp := s.sp - 2 } := by
  rw [push16_eq, busWrite_of_ramCell _ ((ramCell_busWrite ..).trans hk), busWrite_of_ramCell _ hj]

theorem pop_of_readCell (hj : s.readCell .me0 (s.sp + 1) = some j) :
    s.pop = (s.mem.read j, { s with sp := s.sp + 1 }) := by
  rw [pop_eq, busRead_of_readCell hj]

theorem pop16_of_readCell (hk : s.readCell .me0 (s.sp + 1) = some k) (hj : s.readCell .me0 (s.sp + 2) = some j) :
    s.pop16 = (ofBytes (s.mem.read k) (s.mem.read j), { s with sp := s.sp + 2 }) := by
  rw [pop16_eq, busRead_of_readCell hk, busRead_of_readCell hj]

/-- The two bytes of a pushed value: low byte at S, high byte at S - 1. -/
theorem push16_read (h : s.Inv) (hj : s.ramCell .me0 s.sp = some j) (hk : s.ramCell .me0 (s.sp - 1) = some k)
    (hne : j ≠ k) (w : Addr) : (s.push16 w).mem.read j = loByte w ∧ (s.push16 w).mem.read k = hiByte w := by
  rw [push16_of_ramCell hj hk]
  exact ⟨(Memory.read_write_other _ _ hne).trans (Memory.read_write_same h j _),
    Memory.read_write_same (Memory.wf_write h j _) k _⟩

theorem push_read (h : s.Inv) (hj : s.ramCell .me0 s.sp = some j) (v : Byte) : (s.push v).mem.read j = v := by
  rw [push_of_ramCell hj]
  exact Memory.read_write_same h j v

@[simp] theorem readCell_push (sp : Space) (a : Addr) (v : Byte) : (s.push v).readCell sp a = s.readCell sp a :=
  readCell_congr (by simp) (by simp) (by simp) (by simp) sp a

@[simp] theorem readCell_push16 (sp : Space) (a w : Addr) : (s.push16 w).readCell sp a = s.readCell sp a :=
  readCell_congr (by simp) (by simp) (by simp) (by simp) sp a

/-- A pop after a push gives the byte and S back. -/
theorem pop_push (h : s.Inv) (hj : s.ramCell .me0 s.sp = some j) (v : Byte) :
    (s.push v).pop = (v, { s.push v with sp := s.sp }) := by
  have hsp : (s.push v).sp + 1 = s.sp := by
    rw [push_of_ramCell hj]
    exact BitVec.sub_add_cancel s.sp 1
  have hcell : (s.push v).readCell .me0 ((s.push v).sp + 1) = some j := by
    rw [hsp, readCell_push]
    exact readCell_of_ramCell hj
  rw [pop_of_readCell hcell, push_read h hj, hsp]

/-- The 16-bit pop reads the two bytes where the push left them. -/
theorem pop16_push16 (h : s.Inv) (hj : s.ramCell .me0 s.sp = some j) (hk : s.ramCell .me0 (s.sp - 1) = some k)
    (hne : j ≠ k) (w : Addr) : (s.push16 w).pop16 = (w, { s.push16 w with sp := s.sp }) := by
  have hsp : (s.push16 w).sp = s.sp - 2 := by rw [push16_of_ramCell hj hk]
  have hsp1 : (s.push16 w).sp + 1 = s.sp - 1 := by
    rw [hsp]
    bv_omega
  have hsp2 : (s.push16 w).sp + 2 = s.sp := by
    rw [hsp]
    exact BitVec.sub_add_cancel s.sp 2
  have hhigh : (s.push16 w).readCell .me0 ((s.push16 w).sp + 1) = some k := by
    rw [hsp1, readCell_push16]
    exact readCell_of_ramCell hk
  have hlow : (s.push16 w).readCell .me0 ((s.push16 w).sp + 2) = some j := by
    rw [hsp2, readCell_push16]
    exact readCell_of_ramCell hj
  obtain ⟨hj', hk'⟩ := push16_read h hj hk hne w
  rw [pop16_of_readCell hhigh hlow, hj', hk', hsp2, ofBytes_hiByte_loByte]

end

/-- Settles O10: the two cells of the stack hold the bytes after the push, and the pop reads them at the addresses where
the push left them. -/
theorem stackLayout : Obligations.StackLayout := by
  intro s w v j k hinv hj hk hne
  obtain ⟨hlow, hhigh⟩ := push16_read hinv hj hk hne w
  rw [pop16_push16 hinv hj hk hne w, pop_push hinv hj v]
  exact ⟨hlow, hhigh, by rw [push16_of_ramCell hj hk], rfl, rfl, push_read hinv hj v, by rw [push_of_ramCell hj], rfl,
    rfl⟩

/-! ### Bus cycles by the map -/

section
variable {s : State} {sp : Space} {a : Addr}

theorem busCycle_at_ram {k : Nat} (h : s.resolve sp a = .ram k) (v : Byte) :
    s.busRead sp a = (s.mem.read (cellOf k a), s) ∧
    s.busWrite sp a v = { s with mem := s.mem.write (cellOf k a) v } := by
  have hcell : s.ramCell sp a = some (cellOf k a) := by simp [State.ramCell, h]
  exact ⟨busRead_of_readCell (readCell_of_ramCell hcell), busWrite_of_ramCell v hcell⟩

theorem busRead_at_rom {k : Nat} (h : s.resolve sp a = .rom k) : s.busRead sp a = (s.mem.read (cellOf k a), s) := by
  simp [State.busRead, h]

theorem busWrite_at_rom {k : Nat} (h : s.resolve sp a = .rom k) (v : Byte) : s.busWrite sp a v = s := by
  simp [State.busWrite, h]

theorem busRead_at_fixed {x : Byte} (h : s.resolve sp a = .fixed x) : s.busRead sp a = (x, s) := by
  simp [State.busRead, h]

theorem busWrite_at_fixed {x : Byte} (h : s.resolve sp a = .fixed x) (v : Byte) : s.busWrite sp a v = s := by
  simp [State.busWrite, h]

theorem busRead_at_absent (h : s.resolve sp a = .absent) :
    s.busRead sp a = (Config.freeByte s.draws, { s with draws := s.draws + 1 }) := by
  simp [State.busRead, h]

theorem busWrite_at_absent (h : s.resolve sp a = .absent) (v : Byte) : s.busWrite sp a v = s := by
  simp [State.busWrite, h]

theorem busRead_at_device (h : s.resolve sp a = .device) :
    s.busRead sp a = (Config.freeByte s.draws,
      { s with draws := s.draws + 1, out := .deviceRead sp a (Config.freeByte s.draws) :: s.out }) := by
  simp [State.busRead, h]

theorem busWrite_at_device (h : s.resolve sp a = .device) (v : Byte) :
    s.busWrite sp a v = { s with out := .deviceWrite sp a v :: s.out } := by
  simp [State.busWrite, h]

theorem busRead_at_ioc {u : IocUnit} (h : s.resolve sp a = .ioc u) : s.busRead sp a = s.iocRead u (a.setWidth 4) := by
  simp [State.busRead, h]

theorem busWrite_at_ioc {u : IocUnit} (h : s.resolve sp a = .ioc u) (v : Byte) :
    s.busWrite sp a v = s.iocWrite u (a.setWidth 4) v := by
  simp [State.busWrite, h]

end

/-- The register a controller's address selects is +6 where the low four address bits are 6. -/
theorem setWidth_four_eq_six (a : Addr) : a.setWidth 4 = 6#4 ↔ a.toNat % 16 = 6 := by
  rw [BitVec.toNat_eq, BitVec.toNat_setWidth]
  rfl

/-- Settles O7: a bus cycle has one outcome for each thing that can stand at an address; a controller's are those of
`iocRead_eq` and `iocWrite_eq`. -/
theorem busCycleByMap : Obligations.BusCycleByMap := by
  intro s sp a v
  refine ⟨fun k h => busCycle_at_ram h v, fun k h => ⟨busRead_at_rom h, busWrite_at_rom h v⟩,
    fun h => ⟨by rw [busRead_at_absent h], busWrite_at_absent h v⟩,
    fun h => ⟨by rw [busRead_at_device h], busWrite_at_device h v⟩,
    fun x h => ⟨busRead_at_fixed h, busWrite_at_fixed h v⟩, fun u h => ⟨?read, ?write⟩⟩
  case read =>
    have hread := iocRead_eq s u (a.setWidth 4)
    rw [busRead_at_ioc h]
    exact ⟨Config.freeByte s.draws, congrArg Prod.fst hread, congrArg Prod.snd hread⟩
  case write =>
    obtain ⟨edge, hwrite, hrise⟩ := iocWrite_eq s u (a.setWidth 4) v
    rw [busWrite_at_ioc h]
    simp only [setWidth_four_eq_six] at hwrite
    exact ⟨edge, hwrite, hrise⟩

end Sys2Proof.Machine
end

section
/-! PROOFS. The memory maps of the PC-1500 and PC-1500A (20_memory.md R55 to R58): what the first region that covers an
address is, region by region. -/

namespace Sys2Proof.Machine

/-! ### The map, read from its head -/

/-- What a list of regions says stands at a bus address. -/
def State.kindIn (s : State) (sp : Space) (a : Addr) : List Region → RegionKind
  | [] => .ram sp.bank
  | r :: rest => if r.covers s sp a then r.kind else s.kindIn sp a rest

variable {s : State} {sp : Space} {a : Addr} {rest : List Region} {f : Fitted}

theorem resolve_eq_kindIn (s : State) (sp : Space) (a : Addr) : s.resolve sp a = s.kindIn sp a s.board.map := by
  unfold State.resolve
  induction s.board.map with
  | nil => rfl
  | cons r rest ih =>
    unfold State.kindIn
    rw [List.find?_cons, ← ih]
    cases r.covers s sp a <;> rfl

/-- Regions that do not cover the address say nothing of it. -/
theorem kindIn_append_of_not_covers {rs : List Region} (h : ∀ r ∈ rs, ¬ r.covers s sp a = true) :
    s.kindIn sp a (rs ++ rest) = s.kindIn sp a rest := by
  induction rs with
  | nil => rfl
  | cons r rs ih =>
    obtain ⟨hr, hrs⟩ := List.forall_mem_cons.mp h
    exact (if_neg hr).trans (ih hrs)

/-! ### Where each form of region holds -/

theorem condHolds_some (b now : Bool) : condHolds (some b) now = true ↔ b = now := by
  cases b <;> cases now <;> decide

theorem covers_iff (r : Region) : r.covers s sp a = true ↔
    (r.space = sp ∧ r.base ≤ a.toNat ∧ a.toNat < r.base + r.size) ∧
      condHolds r.pv s.pv = true ∧ condHolds r.pu s.pu = true ∧ condHolds r.bf s.bf = true := by
  simp only [Region.covers, Bool.and_eq_true, decide_eq_true_eq, and_assoc]

theorem not_covers_of_space {r : Region} (h : r.space ≠ sp) : ¬ r.covers s sp a = true :=
  fun hc => h ((covers_iff r).mp hc).1.1

/-- A region that ends below an address does not cover it. -/
theorem not_covers_of_end_le {r : Region} (h : r.base + r.size ≤ a.toNat) : ¬ r.covers s sp a = true := by
  rw [covers_iff]
  omega

section
variable {first last : Nat} {kind : RegionKind}

/-- `region` takes its size from its last address. -/
theorem region_range {n : Nat} : (first ≤ n ∧ n < first + (last + 1 - first)) ↔ first ≤ n ∧ n ≤ last := by omega

theorem region_covers (sp' : Space) :
    (region sp' first last kind).covers s sp a = true ↔ sp' = sp ∧ first ≤ a.toNat ∧ a.toNat ≤ last := by
  rw [covers_iff, ← region_range]
  exact and_iff_left ⟨rfl, rfl, rfl⟩

theorem banked_covers (pv : Bool) (pu : Option Bool) : (banked pv pu first last kind).covers s sp a = true ↔
    (.me0 = sp ∧ first ≤ a.toNat ∧ a.toNat ≤ last) ∧ pv = s.pv ∧ condHolds pu s.pu = true := by
  rw [covers_iff, ← region_range]
  exact and_congr_right fun _ => and_congr (condHolds_some pv s.pv) (and_iff_left rfl)

theorem kindIn_region_in (h1 : first ≤ a.toNat) (h2 : a.toNat ≤ last) :
    s.kindIn sp a (region sp first last kind :: rest) = kind :=
  if_pos ((region_covers sp).mpr ⟨rfl, h1, h2⟩)

theorem kindIn_region_out {sp' : Space} (h : a.toNat < first ∨ last < a.toNat) :
    s.kindIn sp a (region sp' first last kind :: rest) = s.kindIn sp a rest :=
  if_neg (by rw [region_covers]; omega)

theorem kindIn_banked_in {pv : Bool} {pu : Option Bool} (h1 : first ≤ a.toNat) (h2 : a.toNat ≤ last) :
    s.kindIn .me0 a (banked pv pu first last kind :: rest) =
      if pv = s.pv ∧ condHolds pu s.pu = true then kind else s.kindIn .me0 a rest :=
  ite_congr (propext ((banked_covers pv pu).trans (and_iff_right ⟨rfl, h1, h2⟩))) (fun _ => rfl) fun _ => rfl

theorem kindIn_banked_out {pv : Bool} {pu : Option Bool} (h : a.toNat < first ∨ last < a.toNat) :
    s.kindIn sp a (banked pv pu first last kind :: rest) = s.kindIn sp a rest :=
  if_neg (by rw [banked_covers]; omega)

theorem kindIn_banked_pv {pv : Bool} {pu : Option Bool} (h : pv ≠ s.pv) :
    s.kindIn sp a (banked pv pu first last kind :: rest) = s.kindIn sp a rest :=
  if_neg fun hc => h ((banked_covers pv pu).mp hc).2.1

end

theorem me0Disabled_covers : me0Disabled.covers s sp a = true ↔ .me0 = sp ∧ s.bf = false := by
  have hall : 0 ≤ a.toNat ∧ a.toNat < 0 + 65536 := by
    have := a.isLt
    omega
  have hcond : condHolds me0Disabled.bf s.bf = true ↔ s.bf = false := (condHolds_some false s.bf).trans eq_comm
  rw [covers_iff, hcond]
  exact ⟨fun ⟨⟨hsp, _⟩, _, _, hbf⟩ => ⟨hsp, hbf⟩, fun ⟨hsp, hbf⟩ => ⟨⟨hsp, hall⟩, rfl, rfl, hbf⟩⟩

/-! ### Option user RAM, by select line -/

/-- The 2 KB of a select line are the addresses whose number of 2 KB from 4000H on it is. -/
theorem optionRamArea_covers (k : Nat) : (optionRamArea f k).covers s sp a = true ↔
    .me0 = sp ∧ 0x4000 ≤ a.toNat ∧ (a.toNat - 0x4000) / 0x800 = k := by
  unfold optionRamArea
  rw [region_covers]
  refine and_congr_right fun _ => ?_
  omega

theorem kindIn_optionRam_out {ks : List Nat} (h : (a.toNat - 0x4000) / 0x800 ∉ ks) :
    s.kindIn sp a (ks.map (optionRamArea f) ++ rest) = s.kindIn sp a rest := by
  refine kindIn_append_of_not_covers fun r hr hc => ?_
  obtain ⟨k, hk, rfl⟩ := List.mem_map.mp hr
  obtain ⟨-, -, rfl⟩ := (optionRamArea_covers k).mp hc
  exact h hk

theorem kindIn_optionRam_in {ks : List Nat} (h : (a.toNat - 0x4000) / 0x800 ∈ ks) (hn : 0x4000 ≤ a.toNat) :
    s.kindIn .me0 a (ks.map (optionRamArea f) ++ rest) =
      if (a.toNat - 0x4000) / 0x800 ∈ f.optionRam then .ram 0 else .absent := by
  induction ks with
  | nil => cases h
  | cons k ks ih =>
    by_cases hk : (a.toNat - 0x4000) / 0x800 = k
    · refine (if_pos ((optionRamArea_covers k).mpr ⟨rfl, hn, hk⟩)).trans ?_
      simp [optionRamArea, region, hk]
    · refine (if_neg fun hc => hk ((optionRamArea_covers k).mp hc).2.2).trans (ih ?_)
      exact (List.mem_cons.mp h).resolve_left hk

/-! ### ME1: the controllers -/

theorem iocRegion_kind (u : IocUnit) : (iocRegion u).kind = .ioc u := by cases u <;> rfl

/-- The first and the last address of a controller in ME1 (R56). -/
def IocUnit.range : IocUnit → Nat × Nat
  | .builtIn => (0xF000, 0xF00F)
  | .ce150 => (0xB000, 0xB00F)
  | .ce153 => (0x8000, 0x800F)
  | .ce158 => (0xD000, 0xD00E)

theorem iocRegion_covers (u : IocUnit) : (iocRegion u).covers s .me1 a = true ↔
    u.range.1 ≤ a.toNat ∧ a.toNat ≤ u.range.2 := by
  cases u <;> exact (region_covers .me1).trans (and_iff_right rfl)

/-- No two controllers answer at one address. -/
theorem iocRegion_unique {u w : IocUnit} (hu : (iocRegion u).covers s .me1 a = true)
    (hw : (iocRegion w).covers s .me1 a = true) : u = w := by
  rw [iocRegion_covers] at hu hw
  cases u <;> cases w <;> simp only [IocUnit.range] at hu hw ⊢ <;> omega

/-- A controller present answers at its addresses. -/
theorem kindIn_iocs_in {us : List IocUnit} {u : IocUnit} (hu : u ∈ us) (hc : (iocRegion u).covers s .me1 a = true) :
    s.kindIn .me1 a (us.map iocRegion ++ rest) = .ioc u := by
  induction us with
  | nil => cases hu
  | cons w us ih =>
    by_cases hw : (iocRegion w).covers s .me1 a = true
    · exact (if_pos hw).trans (iocRegion_unique hc hw ▸ iocRegion_kind w)
    · refine (if_neg hw).trans (ih ((List.mem_cons.mp hu).resolve_left ?_))
      rintro rfl
      exact hw hc

theorem me1Map_eq (us : List IocUnit) :
    me1Map us = (.builtIn :: us).map iocRegion ++ [region .me1 0x0000 0xFFFF .absent] := rfl

/-- ME1 where no controller present answers. -/
theorem kindIn_me1Map_absent {us : List IocUnit}
    (h : ∀ u ∈ IocUnit.builtIn :: us, ¬ (iocRegion u).covers s .me1 a = true) :
    s.kindIn .me1 a (me1Map us) = .absent := by
  have hmax := a.isLt
  rw [me1Map_eq, kindIn_append_of_not_covers (List.forall_mem_map.mpr h)]
  exact kindIn_region_in (Nat.zero_le _) (by omega)

/-! ### What the two computers have in common -/

/-- ME0 from 8000H on: the option area and the system ROM. -/
def upperMap (f : Fitted) : List Region := optionRomArea f ++ [region .me0 0xC000 0xFFFF (.rom 0)]

/-- A map of R55 to R57 but for what stands from 4000H to 7FFFH, `mid`. -/
def computerMap (f : Fitted) (mid : List Region) : List Region :=
  me0Disabled :: region .me0 0x0000 0x3FFF f.userModule :: (mid ++ (upperMap f ++ me1Map f.units))

/-- 4000H to 7FFFH: user RAM up to `ramLast`, the option RAM of the select lines `lines`, then `tail`. -/
def lowerMap (f : Fitted) (ramLast : Nat) (lines : List Nat) (tail : List Region) : List Region :=
  region .me0 0x4000 ramLast (.ram 0) :: (lines.map (optionRamArea f) ++ tail)

def pc1500Mid (f : Fitted) : List Region :=
  lowerMap f 0x47FF [1, 2, 3, 4]
    [region .me0 0x6800 0x75FF .absent, region .me0 0x7600 0x7BFF (.ram 0), region .me0 0x7C00 0x7FFF .absent]

def pc1500aMid (f : Fitted) : List Region :=
  lowerMap f 0x57FF [3, 4, 5] [region .me0 0x7000 0x75FF .absent, region .me0 0x7600 0x7FFF (.ram 0)]

theorem pc1500Map_eq (f : Fitted) : pc1500Map f = computerMap f (pc1500Mid f) := by
  simp [pc1500Map, computerMap, pc1500Mid, lowerMap, upperMap]

theorem pc1500aMap_eq (f : Fitted) : pc1500aMap f = computerMap f (pc1500aMid f) := by
  simp [pc1500aMap, computerMap, pc1500aMid, lowerMap, upperMap]

/-- Regions of ME0 below 8000H. -/
def BelowOptionArea (mid : List Region) : Prop := ∀ r ∈ mid, r.space = .me0 ∧ r.base + r.size ≤ 0x8000

theorem pc1500Mid_below (f : Fitted) : BelowOptionArea (pc1500Mid f) := by
  simp [BelowOptionArea, pc1500Mid, lowerMap, optionRamArea, region]

theorem pc1500aMid_below (f : Fitted) : BelowOptionArea (pc1500aMid f) := by
  simp [BelowOptionArea, pc1500aMid, lowerMap, optionRamArea, region]

theorem upperMap_space (f : Fitted) : ∀ r ∈ upperMap f, r.space = .me0 := by
  unfold upperMap optionRomArea ce150RomArea
  split <;> simp [banked, region]

section
variable {mid : List Region}

/-- With BF reset no decoder of ME0 is enabled. -/
theorem kindIn_computerMap_disabled (h : s.bf = false) : s.kindIn .me0 a (computerMap f mid) = .absent :=
  if_pos (me0Disabled_covers.mpr ⟨rfl, h⟩)

theorem kindIn_computerMap_me0 (h : s.bf = true) : s.kindIn .me0 a (computerMap f mid) =
    s.kindIn .me0 a (region .me0 0x0000 0x3FFF f.userModule :: (mid ++ (upperMap f ++ me1Map f.units))) :=
  if_neg fun hc => Bool.noConfusion (h.symm.trans (me0Disabled_covers.mp hc).2)

theorem kindIn_computerMap_mid (h : s.bf = true) (hn : 0x4000 ≤ a.toNat) : s.kindIn .me0 a (computerMap f mid) =
    s.kindIn .me0 a (mid ++ (upperMap f ++ me1Map f.units)) :=
  (kindIn_computerMap_me0 h).trans (kindIn_region_out (by omega))

theorem kindIn_computerMap_upper (hmid : BelowOptionArea mid) (h : s.bf = true) (hn : 0x8000 ≤ a.toNat) :
    s.kindIn .me0 a (computerMap f mid) = s.kindIn .me0 a (upperMap f ++ me1Map f.units) := by
  rw [kindIn_computerMap_mid h (by omega)]
  exact kindIn_append_of_not_covers fun r hr => not_covers_of_end_le ((hmid r hr).2.trans hn)

/-- ME1 is decoded by the controllers' regions alone. -/
theorem kindIn_computerMap_me1 (hmid : BelowOptionArea mid) :
    s.kindIn .me1 a (computerMap f mid) = s.kindIn .me1 a (me1Map f.units) := by
  have hskip : ∀ r ∈ me0Disabled :: region .me0 0x0000 0x3FFF f.userModule :: (mid ++ upperMap f), r.space = .me0 := by
    simp only [List.forall_mem_cons, List.forall_mem_append]
    exact ⟨rfl, rfl, fun r hr => (hmid r hr).1, upperMap_space f⟩
  have hsplit : computerMap f mid =
      (me0Disabled :: region .me0 0x0000 0x3FFF f.userModule :: (mid ++ upperMap f)) ++ me1Map f.units := by
    simp [computerMap]
  rw [hsplit]
  exact kindIn_append_of_not_covers fun r hr => not_covers_of_space (by rw [hskip r hr]; decide)

end

/-! ### The option area and the system ROM -/

/-- The area of the CE-150's ROM is A000H to BFFFH, while PV is reset. -/
theorem kindIn_ce150RomArea_out (connected : Bool) (h : s.pv = true ∨ a.toNat < 0xA000 ∨ 0xBFFF < a.toNat) :
    s.kindIn sp a (ce150RomArea connected ++ rest) = s.kindIn sp a rest := by
  obtain hpv | hn := h
  · cases connected <;> simp [ce150RomArea, kindIn_banked_pv, hpv]
  · cases connected <;> simp (disch := omega) [ce150RomArea, kindIn_banked_out]

theorem upperMap_append (f : Fitted) (rest : List Region) : upperMap f ++ rest =
    ce150RomArea (f.units.contains .ce150) ++
      (banked false none 0x8000 0x9FFF f.lowPvReset :: banked true (some false) 0x8000 0x9FFF f.lowPuReset ::
        banked true (some true) 0x8000 0x9FFF f.lowPuSet :: banked true none 0xA000 0xBFFF f.highPvSet ::
        region .me0 0xC000 0xFFFF (.rom 0) :: rest) := by
  simp [upperMap, optionRomArea]

theorem kindIn_upperMap_low (h1 : 0x8000 ≤ a.toNat) (h2 : a.toNat ≤ 0x9FFF) : s.kindIn .me0 a (upperMap f ++ rest) =
    if s.pv then (if s.pu then f.lowPuSet else f.lowPuReset) else f.lowPvReset := by
  rw [upperMap_append, kindIn_ce150RomArea_out _ (by omega), kindIn_banked_in h1 h2, kindIn_banked_in h1 h2,
    kindIn_banked_in h1 h2]
  cases s.pv <;> cases s.pu <;> rfl

theorem kindIn_upperMap_highPvSet (h1 : 0xA000 ≤ a.toNat) (h2 : a.toNat ≤ 0xBFFF) (hpv : s.pv = true) :
    s.kindIn .me0 a (upperMap f ++ rest) = f.highPvSet := by
  rw [upperMap_append, kindIn_ce150RomArea_out _ (.inl hpv)]
  simp (disch := omega) only [kindIn_banked_out, kindIn_banked_in h1 h2, hpv, condHolds, and_self, if_true]

theorem kindIn_upperMap_rom (h : 0xC000 ≤ a.toNat) : s.kindIn .me0 a (upperMap f ++ rest) = .rom 0 := by
  have hmax : a.toNat ≤ 0xFFFF := by
    have := a.isLt
    omega
  rw [upperMap_append, kindIn_ce150RomArea_out _ (by omega)]
  simp (disch := omega) only [kindIn_banked_out, kindIn_region_in h hmax]

theorem kindIn_upperMap_noCe150 (h1 : 0xA000 ≤ a.toNat) (h2 : a.toNat ≤ 0xBFFF) (hpv : s.pv = false)
    (hu : .ce150 ∉ f.units) : s.kindIn .me0 a (upperMap f ++ rest) = .fixed 0xFF#8 := by
  simp only [upperMap_append, List.contains_eq_mem, hu, decide_false, ce150RomArea, Bool.false_eq_true, if_false,
    List.cons_append, kindIn_banked_in h1 h2, hpv, condHolds, and_self, if_true]

/-- The CE-150's ROM, whose first byte R58 states. -/
theorem kindIn_upperMap_ce150 (h1 : 0xA000 ≤ a.toNat) (h2 : a.toNat ≤ 0xBFFF) (hpv : s.pv = false)
    (hu : .ce150 ∈ f.units) :
    s.kindIn .me0 a (upperMap f ++ rest) = if a.toNat = 0xA000 then .fixed 0xC0#8 else .rom 2 := by
  simp only [upperMap_append, List.contains_eq_mem, hu, decide_true, ce150RomArea, if_true, List.cons_append]
  split
  case isTrue h =>
    rw [kindIn_banked_in h1 h.le, if_pos ⟨hpv.symm, rfl⟩]
  case isFalse h =>
    rw [kindIn_banked_out (by omega), kindIn_banked_in (by omega) h2, if_pos ⟨hpv.symm, rfl⟩]

/-! ### The maps of R55 to R58 -/

/-- The controllers' addresses as R56 lists them. -/
def iocRanges : List (IocUnit × Nat × Nat) :=
  [(.builtIn, 0xF000, 0xF00F), (.ce150, 0xB000, 0xB00F), (.ce153, 0x8000, 0x800F), (.ce158, 0xD000, 0xD00E)]

theorem mem_iocRanges (u : IocUnit × Nat × Nat) : u ∈ iocRanges ↔ u.2 = u.1.range := by
  obtain ⟨u, r⟩ := u
  cases u <;> simp [iocRanges, IocUnit.range]

/-- An address whose byte the map fixes gives it and ignores a write. -/
theorem busCycle_at_fixed {x : Byte} (h : s.resolve sp a = .fixed x) :
    (s.busRead sp a).1 = x ∧ ∀ v, s.busWrite sp a v = s :=
  ⟨congrArg Prod.fst (busRead_at_fixed h), busWrite_at_fixed h⟩

section
variable {mid : List Region}

/-- ME0 of either computer outside 4000H to 7FFFH, while BF is set. -/
theorem resolve_me0_of_computerMap (hmap : s.board.map = computerMap f mid) (hmid : BelowOptionArea mid)
    (hbf : s.bf = true) :
    (a.toNat ≤ 0x3FFF → s.resolve .me0 a = f.userModule) ∧
    (0x8000 ≤ a.toNat → a.toNat ≤ 0x9FFF →
      s.resolve .me0 a = if s.pv then (if s.pu then f.lowPuSet else f.lowPuReset) else f.lowPvReset) ∧
    (0xC000 ≤ a.toNat → s.resolve .me0 a = .rom 0) ∧
    (0xA000 ≤ a.toNat → a.toNat ≤ 0xBFFF →
      (s.pv = true → s.resolve .me0 a = f.highPvSet) ∧
      (s.pv = false → .ce150 ∈ f.units →
        if a.toNat = 0xA000 then (s.busRead .me0 a).1 = 0xC0#8 ∧ ∀ v, s.busWrite .me0 a v = s
        else s.resolve .me0 a = .rom 2) ∧
      (s.pv = false → .ce150 ∉ f.units → (s.busRead .me0 a).1 = 0xFF#8 ∧ ∀ v, s.busWrite .me0 a v = s)) := by
  have upper (hn : 0x8000 ≤ a.toNat) : s.resolve .me0 a = s.kindIn .me0 a (upperMap f ++ me1Map f.units) := by
    rw [resolve_eq_kindIn, hmap, kindIn_computerMap_upper hmid hbf hn]
  refine ⟨fun h => ?user, fun h1 h2 => (upper h1).trans (kindIn_upperMap_low h1 h2),
    fun h => (upper (by omega)).trans (kindIn_upperMap_rom h), fun h1 h2 =>
      ⟨fun hpv => (upper (by omega)).trans (kindIn_upperMap_highPvSet h1 h2 hpv), fun hpv hu => ?ce150,
        fun hpv hu => ?none⟩⟩
  case user =>
    rw [resolve_eq_kindIn, hmap, kindIn_computerMap_me0 hbf]
    exact kindIn_region_in (Nat.zero_le _) h
  case ce150 =>
    have hkind := (upper (by omega)).trans (kindIn_upperMap_ce150 h1 h2 hpv hu)
    split <;> rename_i hn
    · exact busCycle_at_fixed (hkind.trans (if_pos hn))
    · exact hkind.trans (if_neg hn)
  case none => exact busCycle_at_fixed ((upper (by omega)).trans (kindIn_upperMap_noCe150 h1 h2 hpv hu))

theorem resolve_me0_disabled (hmap : s.board.map = computerMap f mid) (hbf : s.bf = false) :
    s.resolve .me0 a = .absent := by
  rw [resolve_eq_kindIn, hmap]
  exact kindIn_computerMap_disabled hbf

/-- ME1 of either computer where a controller present answers. -/
theorem resolve_me1_ioc (hmap : s.board.map = computerMap f mid) (hmid : BelowOptionArea mid) {u : IocUnit}
    (hu : u = .builtIn ∨ u ∈ f.units) (h1 : u.range.1 ≤ a.toNat) (h2 : a.toNat ≤ u.range.2) :
    s.resolve .me1 a = .ioc u := by
  rw [resolve_eq_kindIn, hmap, kindIn_computerMap_me1 hmid]
  exact kindIn_iocs_in (List.mem_cons.mpr hu) ((iocRegion_covers u).mpr ⟨h1, h2⟩)

theorem resolve_me1_absent (hmap : s.board.map = computerMap f mid) (hmid : BelowOptionArea mid)
    (h : ∀ u : IocUnit, u = .builtIn ∨ u ∈ f.units → ¬ (u.range.1 ≤ a.toNat ∧ a.toNat ≤ u.range.2)) :
    s.resolve .me1 a = .absent := by
  rw [resolve_eq_kindIn, hmap, kindIn_computerMap_me1 hmid]
  exact kindIn_me1Map_absent fun u hu => mt (iocRegion_covers u).mp (h u (List.mem_cons.mp hu))

end

/-! ### 4000H to 7FFFH -/

section
variable {ramLast : Nat} {lines : List Nat} {tail : List Region}
  (hmap : s.board.map = computerMap f (lowerMap f ramLast lines tail)) (hbf : s.bf = true)
include hmap hbf

theorem resolve_userRam (h1 : 0x4000 ≤ a.toNat) (h2 : a.toNat ≤ ramLast) : s.resolve .me0 a = .ram 0 := by
  rw [resolve_eq_kindIn, hmap, kindIn_computerMap_mid hbf h1]
  exact kindIn_region_in h1 h2

/-- Past the user RAM the option RAM and the tail decide. -/
theorem resolve_pastUserRam (h1 : 0x4000 ≤ a.toNat) (h2 : ramLast < a.toNat) : s.resolve .me0 a =
    s.kindIn .me0 a (lines.map (optionRamArea f) ++ (tail ++ (upperMap f ++ me1Map f.units))) := by
  rw [resolve_eq_kindIn, hmap, kindIn_computerMap_mid hbf h1, lowerMap, List.cons_append, List.append_assoc]
  exact kindIn_region_out (.inr h2)

theorem resolve_optionRam (h1 : 0x4000 ≤ a.toNat) (h2 : ramLast < a.toNat) (h : (a.toNat - 0x4000) / 0x800 ∈ lines) :
    s.resolve .me0 a = if (a.toNat - 0x4000) / 0x800 ∈ f.optionRam then .ram 0 else .absent :=
  (resolve_pastUserRam hmap hbf h1 h2).trans (kindIn_optionRam_in h h1)

theorem resolve_pastOptionRam (h1 : 0x4000 ≤ a.toNat) (h2 : ramLast < a.toNat)
    (h : (a.toNat - 0x4000) / 0x800 ∉ lines) :
    s.resolve .me0 a = s.kindIn .me0 a (tail ++ (upperMap f ++ me1Map f.units)) :=
  (resolve_pastUserRam hmap hbf h1 h2).trans (kindIn_optionRam_out h)

end

theorem resolve_pc1500 (hmap : s.board.map = computerMap f (pc1500Mid f)) (hbf : s.bf = true) :
    (0x4000 ≤ a.toNat ∧ a.toNat ≤ 0x47FF ∨ 0x7600 ≤ a.toNat ∧ a.toNat ≤ 0x7BFF → s.resolve .me0 a = .ram 0) ∧
    (0x4800 ≤ a.toNat → a.toNat ≤ 0x67FF →
      s.resolve .me0 a = if (a.toNat - 0x4000) / 0x800 ∈ f.optionRam then .ram 0 else .absent) ∧
    (0x6800 ≤ a.toNat ∧ a.toNat ≤ 0x75FF ∨ 0x7C00 ≤ a.toNat ∧ a.toNat ≤ 0x7FFF → s.resolve .me0 a = .absent) := by
  have lines : (a.toNat - 0x4000) / 0x800 ∈ [1, 2, 3, 4] ↔ 0x4800 ≤ a.toNat ∧ a.toNat ≤ 0x67FF := by
    simp only [List.mem_cons, List.not_mem_nil, or_false]
    omega
  have past (h : 0x6800 ≤ a.toNat) :=
    resolve_pastOptionRam (a := a) hmap hbf (by omega) (by omega) (by rw [lines]; omega)
  refine ⟨?ram, fun h1 h2 => resolve_optionRam hmap hbf (by omega) (by omega) (lines.mpr ⟨h1, h2⟩), ?absent⟩
  case ram =>
    rintro (⟨h1, h2⟩ | ⟨h1, h2⟩)
    · exact resolve_userRam hmap hbf h1 h2
    · exact (past (by omega)).trans ((kindIn_region_out (by omega)).trans (kindIn_region_in h1 h2))
  case absent =>
    rintro (⟨h1, h2⟩ | ⟨h1, h2⟩) <;> rw [past (by omega)]
    · exact kindIn_region_in h1 h2
    · exact (kindIn_region_out (by omega)).trans ((kindIn_region_out (by omega)).trans (kindIn_region_in h1 h2))

theorem resolve_pc1500a (hmap : s.board.map = computerMap f (pc1500aMid f)) (hbf : s.bf = true) :
    (0x4000 ≤ a.toNat ∧ a.toNat ≤ 0x57FF ∨ 0x7600 ≤ a.toNat ∧ a.toNat ≤ 0x7FFF → s.resolve .me0 a = .ram 0) ∧
    (0x5800 ≤ a.toNat → a.toNat ≤ 0x6FFF →
      s.resolve .me0 a = if (a.toNat - 0x4000) / 0x800 ∈ f.optionRam then .ram 0 else .absent) ∧
    (0x7000 ≤ a.toNat ∧ a.toNat ≤ 0x75FF → s.resolve .me0 a = .absent) := by
  have lines : (a.toNat - 0x4000) / 0x800 ∈ [3, 4, 5] ↔ 0x5800 ≤ a.toNat ∧ a.toNat ≤ 0x6FFF := by
    simp only [List.mem_cons, List.not_mem_nil, or_false]
    omega
  have past (h : 0x7000 ≤ a.toNat) :=
    resolve_pastOptionRam (a := a) hmap hbf (by omega) (by omega) (by rw [lines]; omega)
  refine ⟨?_, fun h1 h2 => resolve_optionRam hmap hbf (by omega) (by omega) (lines.mpr ⟨h1, h2⟩),
    fun ⟨h1, h2⟩ => (past h1).trans (kindIn_region_in h1 h2)⟩
  rintro (⟨h1, h2⟩ | ⟨h1, h2⟩)
  · exact resolve_userRam hmap hbf h1 h2
  · exact (past (by omega)).trans ((kindIn_region_out (by omega)).trans (kindIn_region_in h1 h2))

/-- Settles O60: both maps are `computerMap`, and differ from 4000H to 7FFFH alone. -/
theorem pc1500MemoryMap : Obligations.Pc1500MemoryMap := by
  intro s a f n units option shared
  have common {mid : List Region} (hmap : s.board.map = computerMap f mid) (hmid : BelowOptionArea mid) : shared := by
    refine ⟨resolve_me0_of_computerMap hmap hmid, resolve_me0_disabled hmap, fun u hu hfit h1 h2 => ?_, fun h => ?_⟩
    · have hrange : u.2 = u.1.range := (mem_iocRanges u).mp hu
      exact resolve_me1_ioc hmap hmid hfit (hrange ▸ h1) (hrange ▸ h2)
    · exact resolve_me1_absent hmap hmid fun u hfit => h (u, u.range) ((mem_iocRanges _).mpr rfl) hfit
  rw [pc1500Map_eq, pc1500aMap_eq]
  exact ⟨fun hmap => ⟨common hmap (pc1500Mid_below f), resolve_pc1500 hmap⟩,
    fun hmap => ⟨common hmap (pc1500aMid_below f), resolve_pc1500a hmap⟩⟩

end Sys2Proof.Machine
end

section
/-! PROOFS. Decoding and encoding (30_encoding.md R60 to R75): the two opcode pages against `encode`, the length of an
instruction, and the bytes that are none. -/

namespace Sys2Proof

/-! ### The decoding of a page -/

/-- The instruction a page lists for an opcode byte: the map of R69 after FDH, that of R68 otherwise. -/
def pageInstr (second : Bool) (op : Byte) (i j k : Byte) : Option Instr :=
  if second then secondPage op.toNat i j k else firstPage op.toNat i j k

theorem operandCount_le (second : Bool) (op : Byte) : operandCount second op ≤ 3 := by
  unfold operandCount
  dsimp only
  split_ifs <;> decide

/-- When a page's opcode byte and the bytes after it are an instruction: its operand bytes are all there, and they are
what is taken. -/
theorem decodePage_ok_iff {second : Bool} {op : Byte} {bs rest : List Byte} {i : Instr} :
    decodePage second op bs = .ok (i, rest) ↔
      operandCount second op ≤ bs.length ∧ rest = bs.drop (operandCount second op) ∧
        pageInstr second op (bs.getD 0 0#8) (bs.getD 1 0#8) (bs.getD 2 0#8) = some i := by
  unfold decodePage pageInstr
  dsimp only
  split
  case isTrue hlt => exact iff_of_false nofun fun h => absurd h.1 (by omega)
  case isFalse hle =>
    split
    case h_1 j hj =>
      rw [hj, Except.ok.injEq, Prod.mk.injEq, Option.some.injEq]
      exact ⟨fun ⟨hi, hrest⟩ => ⟨Nat.le_of_not_lt hle, hrest.symm, hi⟩,
        fun ⟨_, hrest, hi⟩ => ⟨hi, hrest.symm⟩⟩
    case h_2 hnone => exact iff_of_false nofun fun ⟨_, _, hi⟩ => Option.some_ne_none i (hi.symm.trans hnone)

/-- A byte a page does not list is rejected by name, where R75 gives it no operand bytes to wait for. -/
theorem decodePage_unlisted {second : Bool} {op : Byte} (bs : List Byte) (hcount : operandCount second op = 0)
    (hnone : ∀ i j k, pageInstr second op i j k = none) :
    decodePage second op bs = .error (.illegalOpcode second op) := by
  unfold pageInstr at hnone
  simp [decodePage, hcount, hnone]

/-- The bytes before the opcode byte (R61). -/
def pagePrefix (second : Bool) : List Byte := if second then [0xFD#8] else []

/-- FDH is the page byte, so no opcode byte of the first page. -/
theorem decode_pagePrefix {second : Bool} {op : Byte} (hop : second = false → op ≠ 0xFD#8) (tail : List Byte) :
    decode (pagePrefix second ++ op :: tail) = decodePage second op tail := by
  cases second with
  | false => exact if_neg (hop rfl)
  | true => rfl

/-- What is decoded stands on one of the two pages. -/
theorem decode_ok_cases {bs rest : List Byte} {i : Instr} (h : decode bs = .ok (i, rest)) :
    ∃ second op tail, (second = false → op ≠ 0xFD#8) ∧ bs = pagePrefix second ++ op :: tail ∧
      decodePage second op tail = .ok (i, rest) := by
  match bs with
  | [] => cases h
  | b0 :: tail =>
    by_cases hpage : b0 = 0xFD#8
    · subst hpage
      match tail with
      | [] => cases h
      | op :: tail => exact ⟨true, op, tail, nofun, rfl, h⟩
    · exact ⟨false, b0, tail, fun _ => hpage, rfl, (decode_pagePrefix (fun _ => hpage) tail).symm.trans h⟩

/-! ### The pages against `encode` -/

/-- An instruction that R68 lists at an opcode byte is encoded as that byte and as many operand bytes as R75 gives. -/
theorem encode_of_firstPage {n : Nat} (hn : n < 256) {i j k : Byte} {ins : Instr} (h : firstPage n i j k = some ins) :
    encode ins = BitVec.ofNat 8 n :: [i, j, k].take (operandCount false (BitVec.ofNat 8 n)) := by
  interval_cases n <;> cases h <;> rfl

/-- An instruction that R69 lists at an opcode byte is encoded so after FDH. -/
theorem encode_of_secondPage {n : Nat} (hn : n < 256) {i j k : Byte} {ins : Instr} (h : secondPage n i j k = some ins) :
    encode ins = 0xFD#8 :: BitVec.ofNat 8 n :: [i, j, k].take (operandCount true (BitVec.ofNat 8 n)) := by
  interval_cases n <;> cases h <;> rfl

theorem encode_of_pageInstr {second : Bool} {op i j k : Byte} {ins : Instr} (h : pageInstr second op i j k = some ins) :
    encode ins = pagePrefix second ++ op :: [i, j, k].take (operandCount second op) := by
  cases second with
  | false => simpa [pagePrefix] using encode_of_firstPage op.isLt h
  | true => simpa [pagePrefix] using encode_of_secondPage op.isLt h

theorem take_getD {bs : List Byte} {n : Nat} (hle : n ≤ bs.length) (hn : n ≤ 3) :
    [bs.getD 0 0#8, bs.getD 1 0#8, bs.getD 2 0#8].take n = bs.take n := by
  match n, bs with
  | 0, _ => rfl
  | 1, _ :: _ => rfl
  | 2, _ :: _ :: _ => rfl
  | 3, _ :: _ :: _ :: _ => rfl

/-- What a page decodes are the bytes of the instruction, with the rest after them. -/
theorem encode_append_of_decodePage {second : Bool} {op : Byte} {bs rest : List Byte} {i : Instr}
    (h : decodePage second op bs = .ok (i, rest)) : encode i ++ rest = pagePrefix second ++ op :: bs := by
  obtain ⟨hle, rfl, hpage⟩ := decodePage_ok_iff.mp h
  rw [encode_of_pageInstr hpage, take_getD hle (operandCount_le second op), List.append_assoc, List.cons_append,
    List.take_append_drop]

/-- Each instruction's bytes decode to it, whatever its operand bytes and whatever follows: evaluated for one
constructor at a time. -/
theorem decode_encode (i : Instr) (rest : List Byte) : decode (encode i ++ rest) = .ok (i, rest) := by
  cases i <;> rfl

/-- Settles O1: what is decoded are the instruction's bytes by `encode_append_of_decodePage`, and its bytes decode to it
by `decode_encode`. -/
theorem decodeEncodeAgree : Obligations.DecodeEncodeAgree := by
  intro bs rest i
  refine ⟨fun h => ?_, fun h => h ▸ decode_encode i rest⟩
  obtain ⟨second, op, tail, -, rfl, hpage⟩ := decode_ok_cases h
  exact (encode_append_of_decodePage hpage).symm

/-- Settles O3: each word is the encoding of its instruction. -/
theorem sampleWordsDecode : Obligations.SampleWordsDecode := by
  unfold Obligations.SampleWordsDecode
  refine ⟨?_, ?_, ?_, ?_, ?_, ?_, ?_, ?_, ?_, ?_, ?_, ?_, ?_, ?_, ?_⟩ <;> exact (decodeEncodeAgree _ _ _).mpr rfl

/-! ### The length of an instruction -/

theorem pagePrefix_length_le (second : Bool) : (pagePrefix second).length ≤ 1 := by cases second <;> decide

theorem instrLength_pagePrefix {second : Bool} {op : Byte} (hop : second = false → op ≠ 0xFD#8) (tail : List Byte) :
    instrLength (pagePrefix second ++ op :: tail) = (pagePrefix second).length + (1 + operandCount second op) := by
  cases second with
  | false => exact (if_neg (hop rfl)).trans (Nat.zero_add _).symm
  | true => exact Nat.add_assoc 1 1 _

theorem length_of_decodePage_ok {second : Bool} {op : Byte} {bs rest : List Byte} {i : Instr}
    (h : decodePage second op bs = .ok (i, rest)) : bs.length = operandCount second op + rest.length := by
  obtain ⟨hle, rfl, -⟩ := decodePage_ok_iff.mp h
  rw [List.length_drop]
  omega

/-- Settles O2: at most one byte before the opcode byte, and at most three after it. -/
theorem instructionLength : Obligations.InstructionLength := by
  intro bs rest i h
  obtain ⟨second, op, tail, hop, rfl, hpage⟩ := decode_ok_cases h
  have hlen := length_of_decodePage_ok hpage
  have hprefix := pagePrefix_length_le second
  have hcount := operandCount_le second op
  rw [instrLength_pagePrefix hop, List.length_append, List.length_cons]
  omega

/-! ### Bytes that are no instruction (R70) -/

/-- The 45 opcode bytes the first page does not list; FDH is the page byte. -/
def unlistedFirst : List Nat :=
  [0x30, 0x31, 0x32, 0x33, 0x34, 0x35, 0x36, 0x37, 0x39, 0x3A, 0x3B, 0x3C, 0x3D, 0x3E, 0x3F,
   0x70, 0x71, 0x72, 0x73, 0x74, 0x75, 0x76, 0x77, 0x78, 0x79, 0x7A, 0x7B, 0x7C, 0x7D, 0x7E, 0x7F,
   0x98, 0xB0, 0xB2, 0xB4, 0xB6, 0xBC, 0xE5, 0xE7, 0xF3, 0xF8, 0xFA, 0xFC, 0xFE, 0xFF]

/-- The 100 opcode bytes the second page lists. -/
def listedSecond : List Nat :=
  [0x01, 0x03, 0x05, 0x07, 0x08, 0x09, 0x0A, 0x0B, 0x0C, 0x0D, 0x0E, 0x0F,
   0x11, 0x13, 0x15, 0x17, 0x18, 0x19, 0x1A, 0x1B, 0x1C, 0x1D, 0x1E, 0x1F,
   0x21, 0x23, 0x25, 0x27, 0x28, 0x29, 0x2A, 0x2B, 0x2C, 0x2D, 0x2E, 0x2F,
   0x40, 0x42, 0x48, 0x49, 0x4A, 0x4B, 0x4C, 0x4D, 0x4E, 0x4F, 0x50, 0x52, 0x58, 0x59, 0x5A, 0x5B, 0x5D, 0x5E, 0x5F,
   0x60, 0x62, 0x69, 0x6A, 0x6B, 0x6D, 0x6F, 0x81, 0x88, 0x8A, 0x8C, 0x8E, 0x98, 0x9C,
   0xA1, 0xA3, 0xA5, 0xA7, 0xA8, 0xA9, 0xAA, 0xAB, 0xAC, 0xAD, 0xAE, 0xAF, 0xB1, 0xBA, 0xBE,
   0xC0, 0xC1, 0xC8, 0xCA, 0xCC, 0xCE, 0xD3, 0xD7, 0xDA, 0xDE, 0xE9, 0xEA, 0xEB, 0xEC, 0xED, 0xEF]

theorem firstPage_unlisted {n : Nat} (h : n ∈ unlistedFirst) (i j k : Byte) : firstPage n i j k = none := by
  unfold unlistedFirst at h
  fin_cases h <;> rfl

theorem operandCount_unlistedFirst {op : Byte} (h : op.toNat ∈ unlistedFirst) : operandCount false op = 0 := by
  have count : ∀ n ∈ unlistedFirst, operandCount false (BitVec.ofNat 8 n) = 0 := by decide
  simpa using count op.toNat h

theorem mem_listedSecond_of_secondPage {n : Nat} {i j k : Byte} {ins : Instr} (h : secondPage n i j k = some ins) :
    n ∈ listedSecond := by
  unfold secondPage at h
  split at h
  case h_101 => cases h
  all_goals decide

theorem operandCount_unlistedSecond {op : Byte} (h : op.toNat ∉ listedSecond) : operandCount true op = 0 := by
  have three : [0xE9, 0xEB, 0xED, 0xEF] ⊆ listedSecond := by decide
  have two : [0xA1, 0xA3, 0xA5, 0xA7, 0xA9, 0xAB, 0xAD, 0xAE, 0xAF] ⊆ listedSecond := by decide
  have one : [0x49, 0x4B, 0x4D, 0x4F, 0x59, 0x5B, 0x5D, 0x5F, 0x69, 0x6B, 0x6D, 0x6F] ⊆ listedSecond := by decide
  unfold operandCount
  dsimp only
  rw [if_neg fun hm => h (three hm), if_neg fun hm => h (two hm), if_pos rfl, if_neg fun hm => h (one hm)]

/-- A byte of R70's list is rejected by name on the first page. -/
theorem decode_unlistedFirst {op : Byte} (h : op.toNat ∈ unlistedFirst) (rest : List Byte) :
    decode (op :: rest) = .error (.illegalOpcode false op) := by
  have hop : op ≠ 0xFD#8 := by
    rintro rfl
    exact absurd h (by decide)
  exact (decode_pagePrefix (fun _ => hop) rest).trans
    (decodePage_unlisted rest (operandCount_unlistedFirst h) (firstPage_unlisted h))

/-- A byte R69 does not list is rejected by name after FDH. -/
theorem decode_unlistedSecond {op : Byte} (h : op.toNat ∉ listedSecond) (rest : List Byte) :
    decode (0xFD#8 :: op :: rest) = .error (.illegalOpcode true op) := by
  refine decodePage_unlisted rest (operandCount_unlistedSecond h) fun i j k => Option.eq_none_iff_forall_ne_some.mpr ?_
  exact fun ins hins => h (mem_listedSecond_of_secondPage hins)

/-- An opcode byte rejected by name with nothing after it takes no operand bytes: else too few bytes would be the
reason. -/
theorem operandCount_of_illegal {second q : Bool} {op b : Byte}
    (h : decodePage second op [] = .error (.illegalOpcode q b)) : operandCount second op = 0 := by
  by_contra hne
  have hlt : ([] : List Byte).length < operandCount second op := Nat.pos_of_ne_zero hne
  simp only [decodePage, if_pos hlt] at h
  cases h

namespace Machine

/-- The fetch takes a page, an opcode byte and its operand bytes, whether they are an instruction or not. -/
theorem fetchBytes_of_page {s : State} {second : Bool} {op : Byte} {tail : List Byte}
    (hop : second = false → op ≠ 0xFD#8) (hcount : operandCount second op = tail.length)
    (h : s.bytesAt s.p (pagePrefix second ++ op :: tail)) :
    s.fetchBytes = (pagePrefix second ++ op :: tail,
      { s with p := s.p + BitVec.ofNat 16 (pagePrefix second ++ op :: tail).length }) := by
  unfold State.fetchBytes
  cases second with
  | false =>
    obtain ⟨hfetch, htail⟩ := fetch_of_bytesAt h
    have hmany := fetchMany_of_bytesAt (s := { s with p := s.p + 1 }) htail
    simp only [hfetch, hop rfl, if_false, hcount, hmany, add_one_add_ofNat]
    rfl
  | true =>
    obtain ⟨hpage, hrest⟩ := fetch_of_bytesAt h
    obtain ⟨hfetch, htail⟩ := fetch_of_bytesAt (s := { s with p := s.p + 1 }) hrest
    have hmany := fetchMany_of_bytesAt (s := { s with p := s.p + 1 + 1 }) htail
    simp only [hpage, hfetch, if_true, hcount, hmany, add_one_add_ofNat]
    rfl

/-- Running a page and an opcode byte that are rejected by name stops the machine with that name: the fetch takes these
bytes alone. -/
theorem runInstr_of_illegal {s : State} {second q : Bool} {op b : Byte} (h : s.bytesAt s.p (pagePrefix second ++ [op]))
    (hd : decode (pagePrefix second ++ [op]) = .error (.illegalOpcode q b)) :
    s.runInstr = .fault (.illegalOpcode q b) := by
  have hop : second = false → op ≠ 0xFD#8 := by
    rintro rfl rfl
    cases hd
  have hcount : operandCount second op = ([] : List Byte).length :=
    operandCount_of_illegal ((decode_pagePrefix hop []).symm.trans hd)
  unfold State.runInstr State.fetchInstr
  rw [fetchBytes_of_page hop hcount h]
  simp only [hd]
  rfl

/-- The step that fetches a page and an opcode byte rejected by name stops with that name: taking the turn moves neither
P nor the bytes there. -/
theorem step_of_illegal {s : State} (hturn : s.cpuTurn) (hw : s.wa = false) (hp : s.pendingInterrupt = none)
    (hh : s.halted = false) {second q : Bool} {op b : Byte} (h : s.bytesAt s.p (pagePrefix second ++ [op]))
    (hd : decode (pagePrefix second ++ [op]) = .error (.illegalOpcode q b)) :
    step s = .fault (.illegalOpcode q b) := by
  have hbytes : s.popMove.bytesAt s.popMove.p (pagePrefix second ++ [op]) := by
    rw [popMove_p]
    exact bytesAt_congr (popMove_mem s)
      (readCell_congr (popMove_board s) (popMove_pv s) (popMove_pu s) (popMove_bf s) .me0) h
  rw [step_of_cpuTurn hturn, cpuStep_of_running (by simpa) (by simpa) (by simpa), runInstr_of_illegal hbytes hd]

/-- Settles O4: the codes of R70 by the two pages, and the stop by the fetch of exactly the rejected bytes. -/
theorem unlistedOpcodesRejected : Obligations.UnlistedOpcodesRejected := by
  refine ⟨fun _ rest h => decode_unlistedFirst h rest, fun _ rest h => decode_unlistedSecond h rest,
    fun s op hturn hw hp hh => ⟨?first, ?second⟩⟩
  case first => exact step_of_illegal hturn hw hp hh (second := false)
  case second => exact step_of_illegal hturn hw hp hh (second := true)

end Machine

end Sys2Proof
end

section
/-! PROOFS. Add, subtract and logical instructions (40_arith_logic.md R100 to R114): the tables of forms run by their
shared meanings, what each meaning answers in integer arithmetic, and the decimal correction digit by digit. -/

namespace Sys2Proof.Machine

/-! ### Forms and their meanings -/

/-- A table of forms is run by the meaning `run`: row by row, the bytes are the encoding of the instruction, and
executing it is `run` of what the form names. -/
structure RunBy {α : Type} (run : α → State → Result) (table : List (Form α)) : Prop where
  encode_eq : table.map (fun f => encode f.instr) = table.map Form.bytes
  exec_eq : table.map (fun f => exec f.instr) = table.map (fun f => run f.what)

section
variable {α : Type} {run : α → State → Result} {table : List (Form α)} (h : RunBy run table) {f : Form α}
include h

theorem RunBy.exec (hf : f ∈ table) (s : State) : exec f.instr s = run f.what s :=
  congrFun (List.map_inj_left.mp h.exec_eq f hf) s

/-- What its meaning answers is what a form of the table answers. -/
theorem RunBy.result (hf : f ∈ table) {answer : State → Result} (ha : ∀ s, run f.what s = answer s) :
    f.Encodes ∧ ∀ s, Machine.exec f.instr s = answer s :=
  ⟨fun rest => List.map_inj_left.mp h.encode_eq f hf ▸ decode_encode f.instr rest, fun s => (h.exec hf s).trans (ha s)⟩

end

theorem adcForms_runBy (a b : Byte) : RunBy adc (adcForms a b) := ⟨rfl, rfl⟩

theorem adiForms_runBy (a b i : Byte) : RunBy (adiMem · i) (adiForms a b i) := ⟨rfl, rfl⟩

theorem dcaForms_runBy : RunBy dca dcaForms := ⟨rfl, rfl⟩

theorem adrForms_runBy : RunBy adr adrForms := ⟨rfl, rfl⟩

theorem sbcForms_runBy (a b : Byte) : RunBy sbc (sbcForms a b) := ⟨rfl, rfl⟩

theorem dcsForms_runBy : RunBy dcs dcsForms := ⟨rfl, rfl⟩

theorem andForms_runBy (a b : Byte) : RunBy (logicToA (· &&& ·)) (andForms a b) := ⟨rfl, rfl⟩

theorem oraForms_runBy (a b : Byte) : RunBy (logicToA (· ||| ·)) (oraForms a b) := ⟨rfl, rfl⟩

theorem eorForms_runBy (a b : Byte) : RunBy (logicToA (· ^^^ ·)) (eorForms a b) := ⟨rfl, rfl⟩

/-- ANI A is the memory forms' meaning at the operand A. -/
theorem aniForms_runBy (a b i : Byte) : RunBy (logicImmMem (· &&& ·) · i) (aniForms a b i) := ⟨rfl, rfl⟩

/-- ORI A is the memory forms' meaning at the operand A. -/
theorem oriForms_runBy (a b i : Byte) : RunBy (logicImmMem (· ||| ·) · i) (oriForms a b i) := ⟨rfl, rfl⟩

theorem incForms_runBy : RunBy inc8 incForms := ⟨rfl, rfl⟩

theorem decForms_runBy : RunBy dec8 decForms := ⟨rfl, rfl⟩

theorem incPairForms_runBy : RunBy inc16 incPairForms := ⟨rfl, rfl⟩

theorem decPairForms_runBy : RunBy dec16 decPairForms := ⟨rfl, rfl⟩

theorem adiAForm_runBy (i : Byte) : RunBy (fun _ => adiA i) [⟨[0xB3#8, i], .adiA i, ()⟩] := ⟨rfl, rfl⟩

theorem sbiAForm_runBy (i : Byte) : RunBy (fun _ => sbiA i) [⟨[0xB1#8, i], .sbiA i, ()⟩] := ⟨rfl, rfl⟩

theorem eaiForm_runBy (i : Byte) : RunBy (fun _ => logicImmA (· ^^^ ·) i) [⟨[0xBD#8, i], .eai i, ()⟩] := ⟨rfl, rfl⟩

/-! ### What each meaning answers -/

section
variable (o : Operand) (p : Pair) (r : Reg8) (i : Byte) (s : State)

theorem sub8_eq_subMeaning (a b : Byte) (cin : Bool) : sub8 a b cin = subMeaning a b cin :=
  (adderMeaning a b cin).2

theorem setFlags_eq_withFlags (x : AddResult) : s.setFlags x = s.withFlags x := rfl

theorem adc_eq :
    adc o s = .next { (s.readOperand o).2.withFlags (addMeaning s.a (s.readOperand o).1 s.c) with
      a := (addMeaning s.a (s.readOperand o).1 s.c).sum } := by
  simp only [adc, readOperand_a, readOperand_c, add8_eq_addMeaning]
  rfl

theorem adiA_eq :
    adiA i s = .next { s.withFlags (addMeaning s.a i s.c) with a := (addMeaning s.a i s.c).sum } := by
  simp only [adiA, add8_eq_addMeaning]
  rfl

theorem adiMem_eq :
    adiMem o i s = .next (((s.readOperand o).2.writeOperand o (addMeaning (s.readOperand o).1 i false).sum).withFlags
      (addMeaning (s.readOperand o).1 i false)) := by
  simp only [adiMem, add8_eq_addMeaning, setFlags_eq_withFlags]

theorem dca_eq :
    dca o s = .next (let x := addMeaning (s.a + 0x66#8) (s.readOperand o).1 s.c
      { (s.readOperand o).2.withFlags x with a := x.sum + decimalAdjust x.c x.h }) := by
  simp only [dca, readOperand_a, readOperand_c, add8_eq_addMeaning]
  rfl

theorem sbc_eq :
    sbc o s = .next { (s.readOperand o).2.withFlags (subMeaning s.a (s.readOperand o).1 s.c) with
      a := (subMeaning s.a (s.readOperand o).1 s.c).sum } := by
  simp only [sbc, readOperand_a, readOperand_c, sub8_eq_subMeaning]
  rfl

theorem sbiA_eq :
    sbiA i s = .next { s.withFlags (subMeaning s.a i s.c) with a := (subMeaning s.a i s.c).sum } := by
  simp only [sbiA, sub8_eq_subMeaning]
  rfl

theorem dcs_eq :
    dcs o s = .next (let x := subMeaning s.a (s.readOperand o).1 s.c
      { (s.readOperand o).2.withFlags x with a := x.sum + decimalAdjust x.c x.h }) := by
  simp only [dcs, readOperand_a, readOperand_c, sub8_eq_subMeaning]
  rfl

theorem logicToA_eq (f : Byte → Byte → Byte) :
    logicToA f o s = .next { (s.readOperand o).2 with
      a := f s.a (s.readOperand o).1, z := decide (f s.a (s.readOperand o).1 = 0#8) } := by
  simp only [logicToA, readOperand_a]
  rfl

theorem logicImmA_eq (f : Byte → Byte → Byte) :
    logicImmA f i s = .next { s with a := f s.a i, z := decide (f s.a i = 0#8) } := rfl

theorem logicImmMem_eq (f : Byte → Byte → Byte) :
    logicImmMem f o i s = .next { (s.readOperand o).2.writeOperand o (f (s.readOperand o).1 i) with
      z := decide (f (s.readOperand o).1 i = 0#8) } := rfl

theorem inc8_eq :
    inc8 r s = .next ((s.setReg r (addMeaning (s.reg r) 0x01#8 false).sum).withFlags
      (addMeaning (s.reg r) 0x01#8 false)) := by
  simp only [inc8, add8_eq_addMeaning, setFlags_eq_withFlags]

theorem dec8_eq :
    dec8 r s = .next ((s.setReg r (addMeaning (s.reg r) 0xFF#8 false).sum).withFlags
      (addMeaning (s.reg r) 0xFF#8 false)) := by
  simp only [dec8, add8_eq_addMeaning, setFlags_eq_withFlags]

end

/-! ### Carries as numbers -/

theorem toNat_decide (q : Prop) [Decidable q] : (decide q).toNat = if q then 1 else 0 := Bool.cond_decide q 1 0

/-- An addition digit by digit: H is the carry out of the low digit, and C the one out of the high digit. -/
theorem addMeaning_digits {a b : Byte} {cin : Bool} {x : AddResult} (hx : x = addMeaning a b cin) :
    x.sum.toNat % 16 + 16 * x.h.toNat = a.toNat % 16 + b.toNat % 16 + cin.toNat ∧
    x.sum.toNat / 16 + 16 * x.c.toNat = a.toNat / 16 + b.toNat / 16 + x.h.toNat := by
  subst hx
  have ha := a.isLt
  have hb := b.isLt
  have hcin := cin.toNat_lt
  simp only [addMeaning, BitVec.toNat_ofNat, toNat_decide]
  constructor <;> split_ifs <;> omega

/-- A subtraction digit by digit: H and C are what is left of the 16 lent to each digit, in units of 16. -/
theorem subMeaning_digits {a b : Byte} {cin : Bool} {x : AddResult} (hx : x = subMeaning a b cin) :
    x.sum.toNat % 16 + 16 * x.h.toNat + b.toNat % 16 + (!cin).toNat = a.toNat % 16 + 16 ∧
    x.sum.toNat / 16 + 16 * x.c.toNat + b.toNat / 16 + (!x.h).toNat = a.toNat / 16 + 16 := by
  subst hx
  have ha := a.isLt
  have hb := b.isLt
  have hcin := (!cin).toNat_lt
  simp only [subMeaning, BitVec.toNat_ofInt, ← decide_not, toNat_decide]
  constructor <;> split_ifs <;> omega

/-! ### The pair as two bytes (R103) -/

/-- A byte added to a pair is added to the low byte, its carry to the high byte. -/
theorem ofBytes_add_setWidth (hi lo a : Byte) :
    ofBytes hi lo + a.setWidth 16 =
      ofBytes (hi + bitAs 8 (addMeaning lo a false).c) (addMeaning lo a false).sum := by
  obtain ⟨hlow, hhigh⟩ := addMeaning_digits (rfl : addMeaning lo a false = _)
  apply BitVec.eq_of_toNat_eq
  rw [BitVec.toNat_add, ofBytes_toNat, ofBytes_toNat, BitVec.toNat_add, bitAs_toNat,
    BitVec.toNat_setWidth_of_le (by decide)]
  simp only [Bool.toNat_false] at hlow
  omega

theorem adr_eq (p : Pair) (s : State) :
    adr p s = .next ((s.setPair p (s.pair p + s.a.setWidth 16)).withFlags (addMeaning (s.reg p.lo) s.a false)) := by
  simp only [adr, add8_eq_addMeaning, State.pair, ofBytes_add_setWidth, State.setPair, hiByte_ofBytes, loByte_ofBytes]
  cases p <;> rfl

/-! ### Decimal digits (R102, R106) -/

theorem bcdValue_lt {b : Byte} (hb : validBcd b) : bcdValue b < 100 := by
  obtain ⟨hhi, hlo⟩ := hb
  unfold bcdValue
  omega

/-- One digit of DCA: with 6 added beforehand, the carry `k` out of the digit is the decimal one, and the digit `t`
stands 6 too high where it is 0. -/
theorem decimal_digit_add {a m cin t k : Nat} (ha : a ≤ 9) (hm : m ≤ 9) (hcin : cin < 2) (ht : t < 16) (hk : k < 2)
    (h : t + 16 * k = a + 6 + m + cin) : ∃ d ≤ 9, t + 6 * k = d + 6 ∧ d + 10 * k = a + m + cin :=
  ⟨t + 6 * k - 6, by omega, by omega, by omega⟩

/-- One digit of DCS: where nothing is left of the 16 lent to it (`k` is 0), the digit `t` stands 6 too high. -/
theorem decimal_digit_sub {a m borrow t k : Nat} (ha : a ≤ 9) (hm : m ≤ 9) (hb : borrow < 2) (ht : t < 16) (hk : k < 2)
    (h : t + 16 * k + m + borrow = a + 16) : ∃ d ≤ 9, t + 6 * k = d + 6 ∧ d + 10 * k + m + borrow = a + 10 :=
  ⟨t + 6 * k - 6, by omega, by omega, by omega⟩

/-- Where the digits `hi` and `lo` stand 6 too high but for those a carry went out of, DA takes the 6s away. -/
theorem bcd_of_decimalAdjust {t : Byte} {c h : Bool} {hi lo : Nat} (hhi : hi ≤ 9) (hlo : lo ≤ 9)
    (hthi : t.toNat / 16 + 6 * c.toNat = hi + 6) (htlo : t.toNat % 16 + 6 * h.toNat = lo + 6) :
    validBcd (t + decimalAdjust c h) ∧ bcdValue (t + decimalAdjust c h) = 10 * hi + lo := by
  have digits : (t + decimalAdjust c h).toNat = 16 * hi + lo := by
    rw [BitVec.toNat_add]
    cases c <;> cases h <;> simp [decimalAdjust] at hthi htlo ⊢ <;> omega
  unfold validBcd bcdValue
  omega

theorem toNat_div_16_lt (b : Byte) : b.toNat / 16 < 16 := Nat.div_lt_of_lt_mul b.isLt

theorem toNat_mod_16_lt (b : Byte) : b.toNat % 16 < 16 := Nat.mod_lt _ (by decide)

/-- Step 1 of DCA adds 6 to each digit. -/
theorem digits_add_66H {a : Byte} (ha : validBcd a) :
    (a + 0x66#8).toNat / 16 = a.toNat / 16 + 6 ∧ (a + 0x66#8).toNat % 16 = a.toNat % 16 + 6 := by
  obtain ⟨hhi, hlo⟩ := ha
  rw [BitVec.toNat_add, BitVec.toNat_ofNat]
  omega

section
variable {a m : Byte} {cin : Bool} {x : AddResult} (ha : validBcd a) (hm : validBcd m)
include ha hm

/-- The corrected sum of `A + 66H + m + C`, its C standing for 100 of the decimal sum. -/
theorem decimalAdjust_add (hx : x = addMeaning (a + 0x66#8) m cin) :
    validBcd (x.sum + decimalAdjust x.c x.h) ∧
      bcdValue (x.sum + decimalAdjust x.c x.h) + 100 * x.c.toNat = bcdValue a + bcdValue m + cin.toNat := by
  obtain ⟨hlow, hhigh⟩ := addMeaning_digits hx
  rw [(digits_add_66H ha).2] at hlow
  rw [(digits_add_66H ha).1] at hhigh
  obtain ⟨lo, hlo, htlo, hlow⟩ :=
    decimal_digit_add ha.2 hm.2 cin.toNat_lt (toNat_mod_16_lt x.sum) x.h.toNat_lt hlow
  obtain ⟨hi, hhi, hthi, hhigh⟩ :=
    decimal_digit_add ha.1 hm.1 x.h.toNat_lt (toNat_div_16_lt x.sum) x.c.toNat_lt hhigh
  obtain ⟨valid, value⟩ := bcd_of_decimalAdjust hhi hlo hthi htlo
  refine ⟨valid, ?_⟩
  rw [value]
  unfold bcdValue
  linarith only [hlow, hhigh]

/-- The corrected difference `A - m - (1 - C)`, its C standing for what is left of 100 lent to it. -/
theorem decimalAdjust_sub (hx : x = subMeaning a m cin) :
    validBcd (x.sum + decimalAdjust x.c x.h) ∧
      bcdValue (x.sum + decimalAdjust x.c x.h) + 100 * x.c.toNat + bcdValue m + (!cin).toNat = bcdValue a + 100 := by
  obtain ⟨hlow, hhigh⟩ := subMeaning_digits hx
  obtain ⟨lo, hlo, htlo, hlow⟩ :=
    decimal_digit_sub ha.2 hm.2 (!cin).toNat_lt (toNat_mod_16_lt x.sum) x.h.toNat_lt hlow
  obtain ⟨hi, hhi, hthi, hhigh⟩ :=
    decimal_digit_sub ha.1 hm.1 (!x.h).toNat_lt (toNat_div_16_lt x.sum) x.c.toNat_lt hhigh
  obtain ⟨valid, value⟩ := bcd_of_decimalAdjust hhi hlo hthi htlo
  have hnot : x.h.toNat + (!x.h).toNat = 1 := by cases x.h <;> rfl
  refine ⟨valid, ?_⟩
  rw [value]
  unfold bcdValue
  linarith only [hlow, hhigh, hnot]

/-- The corrected sum is the decimal one modulo 100, and its C the decimal carry. -/
theorem decimalAdjust_add_mod (hx : x = addMeaning (a + 0x66#8) m cin) :
    validBcd (x.sum + decimalAdjust x.c x.h) ∧
      bcdValue (x.sum + decimalAdjust x.c x.h) = (bcdValue a + bcdValue m + cin.toNat) % 100 ∧
      x.c = decide (100 ≤ bcdValue a + bcdValue m + cin.toNat) := by
  obtain ⟨valid, value⟩ := decimalAdjust_add ha hm hx
  have hlt := bcdValue_lt valid
  have hc := x.c.toNat_lt
  refine ⟨valid, by omega, ?_⟩
  rw [Bool.eq_iff_iff, decide_eq_true_iff, ← Bool.toNat_eq_one]
  omega

/-- The corrected difference is the decimal one modulo 100, and its C says that nothing was borrowed. -/
theorem decimalAdjust_sub_mod (hx : x = subMeaning a m cin) :
    validBcd (x.sum + decimalAdjust x.c x.h) ∧
      (bcdValue (x.sum + decimalAdjust x.c x.h) : Int) = ((bcdValue a : Int) - bcdValue m - (!cin).toNat) % 100 ∧
      x.c = decide (bcdValue m + (!cin).toNat ≤ bcdValue a) := by
  obtain ⟨valid, value⟩ := decimalAdjust_sub ha hm hx
  have hlt := bcdValue_lt valid
  have hc := x.c.toNat_lt
  refine ⟨valid, by omega, ?_⟩
  rw [Bool.eq_iff_iff, decide_eq_true_iff, ← Bool.toNat_eq_one]
  omega

end

/-! ### The instructions -/

/-- Settles O11: every form is `adc` of its operand. -/
theorem adcResult : Obligations.AdcResult :=
  fun a b f hf => (adcForms_runBy a b).result hf (adc_eq f.what)

/-- Settles O12: the accumulator form is `adiA`, the memory forms are `adiMem`. -/
theorem adiResult : Obligations.AdiResult :=
  fun a b i => ⟨(adiAForm_runBy i).result (List.mem_singleton_self _) (adiA_eq i),
    fun f hf => (adiForms_runBy a b i).result hf (adiMem_eq f.what i)⟩

/-- Settles O13: every form is `dca` of its operand, and `decimalAdjust` is R102's table. -/
theorem dcaResult : Obligations.DcaResult :=
  fun f hf => dcaForms_runBy.result hf (dca_eq f.what)

/-- Settles O14: the carry of the low byte is the one a 16-bit addition makes. -/
theorem adrResult : Obligations.AdrResult :=
  fun f hf => adrForms_runBy.result hf (adr_eq f.what)

/-- Settles O15: every form is `sbc` of its operand, SBI is `sbiA`. -/
theorem sbcSbiResult : Obligations.SbcSbiResult :=
  fun a b i => ⟨fun f hf => (sbcForms_runBy a b).result hf (sbc_eq f.what),
    (sbiAForm_runBy i).result (List.mem_singleton_self _) (sbiA_eq i)⟩

/-- Settles O16: every form is `dcs` of its operand, and `decimalAdjust` is R106's table. -/
theorem dcsResult : Obligations.DcsResult :=
  fun f hf => dcsForms_runBy.result hf (dcs_eq f.what)

/-- Settles O17: the sum and the difference corrected digit by digit. -/
theorem decimalArithmetic : Obligations.DecimalArithmetic :=
  ⟨fun f hf s ha hm =>
    ⟨_, (dcaForms_runBy.exec hf s).trans (dca_eq f.what s), decimalAdjust_add_mod ha hm rfl⟩,
   fun f hf s ha hm =>
    ⟨_, (dcsForms_runBy.exec hf s).trans (dcs_eq f.what s), decimalAdjust_sub_mod ha hm rfl⟩⟩

/-- Settles O18: the memory forms are `logicToA` of their operation, EAI is `logicImmA`. It stands under `Form` because
`logicToA` is the meaning. -/
theorem Form.logicToA : Obligations.LogicToA :=
  fun a b i => ⟨fun f hf => (andForms_runBy a b).result hf fun s => logicToA_eq f.what s _,
    fun f hf => (oraForms_runBy a b).result hf fun s => logicToA_eq f.what s _,
    fun f hf => (eorForms_runBy a b).result hf fun s => logicToA_eq f.what s _,
    (eaiForm_runBy i).result (List.mem_singleton_self _) fun s => logicImmA_eq i s _⟩

/-- Settles O19: every form is `logicImmMem` of its operand, A among them. -/
theorem logicImmediate : Obligations.LogicImmediate :=
  fun a b i => ⟨fun f hf => (aniForms_runBy a b i).result hf fun s => logicImmMem_eq f.what i s _,
    fun f hf => (oriForms_runBy a b i).result hf fun s => logicImmMem_eq f.what i s _⟩

/-- Settles O20: 8-bit forms are `inc8` and `dec8`; a pair's are `inc16` and `dec16`, whose answers are the
statement's. -/
theorem incDecResult : Obligations.IncDecResult :=
  ⟨fun f hf => incForms_runBy.result hf (inc8_eq f.what), fun f hf => decForms_runBy.result hf (dec8_eq f.what),
    fun _ hf => incPairForms_runBy.result hf fun _ => rfl, fun _ hf => decPairForms_runBy.result hf fun _ => rfl⟩

end Sys2Proof.Machine
end

section
/-! PROOFS. Compare and bit test (41_compare_bittest.md R120 to R123): the tables of forms run by their meanings, and the
unsigned comparison read off a subtraction that borrows nothing at its start. -/

namespace Sys2Proof.Machine

/-! ### Forms and their meanings -/

theorem cpaForms_runBy (a b : Byte) : RunBy cpa (cpaForms a b) := ⟨rfl, rfl⟩

theorem cpiForms_runBy (i : Byte) : RunBy (cpi · i) (cpiForms i) := ⟨rfl, rfl⟩

theorem bitForms_runBy (a b : Byte) : RunBy bit (bitForms a b) := ⟨rfl, rfl⟩

/-- BII A is the memory forms' meaning at the operand A. -/
theorem biiForms_runBy (a b i : Byte) : RunBy (bii · i) (biiForms a b i) := ⟨rfl, rfl⟩

/-! ### The unsigned comparison (R120) -/

/-- C of a comparison is "not below". -/
theorem subMeaning_true_c (a b : Byte) : (subMeaning a b true).c = decide (b.toNat ≤ a.toNat) := by
  simp only [subMeaning, Bool.not_true, Bool.toNat_false, decide_eq_decide]
  omega

/-- Z of a comparison is "equal": two bytes differ by less than 256, so a difference of 0 modulo 256 is 0. -/
theorem subMeaning_true_z (a b : Byte) : (subMeaning a b true).z = decide (a = b) := by
  have ha := a.isLt
  have hb := b.isLt
  simp only [subMeaning, Bool.not_true, Bool.toNat_false, decide_eq_decide, BitVec.toNat_eq]
  omega

/-- The flags of `a - b`, with C and Z as the unsigned comparison of `a` and `b` (R120's table). -/
theorem setFlags_compare (s : State) (a b : Byte) :
    s.setFlags (sub8 a b true) = { s with
      c := decide (b.toNat ≤ a.toNat), z := decide (a = b),
      h := (subMeaning a b true).h, v := (subMeaning a b true).v } := by
  rw [sub8_eq_subMeaning, ← subMeaning_true_c, ← subMeaning_true_z]
  rfl

/-! ### What each meaning answers -/

section
variable (o : Operand) (r : Reg8) (i : Byte) (s : State)

theorem cpa_eq :
    cpa o s = .next { (s.readOperand o).2 with
      c := decide ((s.readOperand o).1.toNat ≤ s.a.toNat), z := decide (s.a = (s.readOperand o).1),
      h := (subMeaning s.a (s.readOperand o).1 true).h, v := (subMeaning s.a (s.readOperand o).1 true).v } := by
  simp only [cpa, readOperand_a, setFlags_compare]

theorem cpi_eq :
    cpi r i s = .next { s with
      c := decide (i.toNat ≤ (s.reg r).toNat), z := decide (s.reg r = i),
      h := (subMeaning (s.reg r) i true).h, v := (subMeaning (s.reg r) i true).v } := by
  simp only [cpi, setFlags_compare]

theorem bit_eq :
    bit o s = .next { (s.readOperand o).2 with z := decide (s.a &&& (s.readOperand o).1 = 0#8) } := by
  simp only [bit, State.setZ, isZero, readOperand_a]

theorem bii_eq :
    bii o i s = .next { (s.readOperand o).2 with z := decide ((s.readOperand o).1 &&& i = 0#8) } := rfl

end

/-! ### The instructions -/

/-- Settles O21: every form of CPA is `cpa` of its operand and every form of CPI is `cpi` of its register; both take the
comparison from the flags of the subtraction. -/
theorem compareResult : Obligations.CompareResult :=
  fun a b i => ⟨fun f hf => (cpaForms_runBy a b).result hf (cpa_eq f.what),
    fun f hf => (cpiForms_runBy i).result hf (cpi_eq f.what i)⟩

/-- Settles O22: every form of BIT is `bit` and every form of BII is `bii` of its operand, A among those of BII. -/
theorem bitTestResult : Obligations.BitTestResult :=
  fun a b i => ⟨fun f hf => (bitForms_runBy a b).result hf (bit_eq f.what),
    fun f hf => (biiForms_runBy a b i).result hf (bii_eq f.what i)⟩

end Sys2Proof.Machine
end

section
/-! PROOFS. Transfer instructions (42_transfer.md R130 to R142): the tables of forms run by their meanings, what each
meaning answers in bus cycles and register writes, and T as a number. -/

namespace Sys2Proof.Machine

/-! ### Forms and their meanings -/

theorem ldaForms_runBy (a b : Byte) : RunBy lda (ldaForms a b) := ⟨rfl, rfl⟩

theorem ldiForms_runBy (i : Byte) : RunBy (fun r s => .next (s.setReg r i)) (ldiForms i) := ⟨rfl, rfl⟩

theorem ldeForms_runBy : RunBy (loadStep · (-1)) ldeForms := ⟨rfl, rfl⟩

theorem linForms_runBy : RunBy (loadStep · 1) linForms := ⟨rfl, rfl⟩

theorem staForms_runBy (a b : Byte) : RunBy sta (staForms a b) := ⟨rfl, rfl⟩

theorem sdeForms_runBy : RunBy (storeStep · (-1)) sdeForms := ⟨rfl, rfl⟩

theorem sinForms_runBy : RunBy (storeStep · 1) sinForms := ⟨rfl, rfl⟩

/-- Every form of LDX writes X, LDX X among them (D27). -/
theorem ldxForms_runBy : RunBy (fun w s => .next (s.setPair .x (s.wide w))) ldxForms := ⟨rfl, rfl⟩

/-- Every form of STX reads X, STX X among them (D27). -/
theorem stxForms_runBy : RunBy (fun w s => .next (s.setWide w (s.pair .x))) stxForms := ⟨rfl, rfl⟩

theorem pshForms_runBy : RunBy (fun p s => .next (s.push16 (s.pair p))) pshForms := ⟨rfl, rfl⟩

theorem popForms_runBy : RunBy popPair popForms := ⟨rfl, rfl⟩

theorem ldiAForm_runBy (i : Byte) : RunBy (fun _ => ldiA i) [⟨[0xB5#8, i], .ldiA i, ()⟩] := ⟨rfl, rfl⟩

theorem ldiSForm_runBy (i j : Byte) :
    RunBy (fun _ s => .next { s with sp := ofBytes i j }) [⟨[0xAA#8, i, j], .ldiS i j, ()⟩] := ⟨rfl, rfl⟩

theorem pshAForm_runBy : RunBy (fun _ s => .next (s.push s.a)) [⟨[0xFD#8, 0xC8#8], .pshA, ()⟩] := ⟨rfl, rfl⟩

theorem popAForm_runBy : RunBy (fun _ => popA) [⟨[0xFD#8, 0x8A#8], .popA, ()⟩] := ⟨rfl, rfl⟩

theorem attForm_runBy : RunBy (fun _ s => .next (s.setT s.a)) [⟨[0xFD#8, 0xEC#8], .att, ()⟩] := ⟨rfl, rfl⟩

theorem ttaForm_runBy :
    RunBy (fun _ s => .next ({ s with a := s.t }.setZ s.t)) [⟨[0xFD#8, 0xAA#8], .tta, ()⟩] := ⟨rfl, rfl⟩

/-! ### What each meaning answers -/

section
variable (o : Operand) (p : Pair) (i : Byte) (s : State)

/-- A pair is written alike before and after A. -/
theorem setPair_with_a (b : Byte) (w : Addr) :
    ({ s with a := b } : State).setPair p w = { s.setPair p w with a := b } := by
  cases p <;> rfl

/-- A pair is written alike before and after S. -/
theorem setPair_with_sp (v w : Addr) : ({ s with sp := v } : State).setPair p w = { s.setPair p w with sp := v } := by
  cases p <;> rfl

/-- A pair written from its two bytes. -/
theorem setPair_ofBytes (hi lo : Byte) : s.setPair p (ofBytes hi lo) = (s.setReg p.hi hi).setReg p.lo lo := by
  rw [State.setPair, hiByte_ofBytes, loByte_ofBytes]

theorem lda_eq :
    lda o s = .next { (s.readOperand o).2 with
      a := (s.readOperand o).1, z := decide ((s.readOperand o).1 = 0#8) } := rfl

theorem ldiA_eq : ldiA i s = .next { s with a := i, z := decide (i = 0#8) } := rfl

/-- The read cycle leaves the pair as it was, so it moves from its value before the instruction. -/
theorem loadStep_eq (d : Addr) :
    loadStep p d s = .next { (s.busRead .me0 (s.pair p)).2.setPair p (s.pair p + d) with
      a := (s.busRead .me0 (s.pair p)).1, z := decide ((s.busRead .me0 (s.pair p)).1 = 0#8) } := by
  simp only [loadStep, readOperand_pair, setPair_with_a]
  rfl

/-- The write cycle leaves the pair as it was, so it moves from its value before the instruction. -/
theorem storeStep_eq (d : Addr) :
    storeStep p d s = .next ((s.busWrite .me0 (s.pair p) s.a).setPair p (s.pair p + d)) := by
  simp only [storeStep, State.writeOperand, busWrite_pair]

/-- The low byte of a pair is pushed first. -/
theorem push16_pair_eq : s.push16 (s.pair p) =
    { (s.busWrite .me0 s.sp (s.reg p.lo)).busWrite .me0 (s.sp - 1) (s.reg p.hi) with sp := s.sp - 2 } := by
  rw [push16_eq, State.pair, loByte_ofBytes, hiByte_ofBytes]

theorem popA_eq :
    popA s = .next { (s.busRead .me0 (s.sp + 1)).2 with
      a := (s.busRead .me0 (s.sp + 1)).1, z := decide ((s.busRead .me0 (s.sp + 1)).1 = 0#8), sp := s.sp + 1 } := by
  rw [popA, pop_eq]
  rfl

/-- The high byte of a pair is popped first. -/
theorem popPair_eq :
    popPair p s = .next (let hi := s.busRead .me0 (s.sp + 1)
      let lo := hi.2.busRead .me0 (s.sp + 2)
      { (lo.2.setReg p.hi hi.1).setReg p.lo lo.1 with sp := s.sp + 2 }) := by
  simp only [popPair, pop16_eq, setPair_with_sp]
  rw [setPair_ofBytes]

/-- T as a number: bit by bit from H down to C, each one appended bit doubles what stands above it (R16). -/
theorem t_toNat : s.t.toNat = s.c.toNat + 2 * s.ie.toNat + 4 * s.z.toNat + 8 * s.v.toNat + 16 * s.h.toNat := by
  have append_bit {n : Nat} (x : BitVec n) (b : Bool) : (x ++ BitVec.ofBool b).toNat = x.toNat * 2 + b.toNat :=
    BitVec.toNat_concat x b
  simp only [State.t, append_bit, BitVec.toNat_zero]
  omega

end

/-! ### The instructions -/

/-- Settles O26: A moves by one push or one pop, a pair by `push16` and `pop16`, whose bus cycles do not look at S. -/
theorem pushPopResult : Obligations.PushPopResult :=
  ⟨pshAForm_runBy.result (List.mem_singleton_self _) fun s => congrArg _ (push_eq s s.a),
    fun f hf => pshForms_runBy.result hf fun s => congrArg _ (push16_pair_eq f.what s),
    popAForm_runBy.result (List.mem_singleton_self _) popA_eq,
    fun f hf => popForms_runBy.result hf (popPair_eq f.what)⟩

/-- Settles O23: LDA is `lda` of its operand, LDE and LIN are `loadStep` down and up, and LDI writes its register or S;
only LDI A is `ldiA`, with Z. -/
theorem loadResult : Obligations.LoadResult :=
  fun a b i j => ⟨fun f hf => (ldaForms_runBy a b).result hf (lda_eq f.what),
    (ldiAForm_runBy i).result (List.mem_singleton_self _) (ldiA_eq i),
    fun _ hf => (ldiForms_runBy i).result hf fun _ => rfl,
    (ldiSForm_runBy i j).result (List.mem_singleton_self _) fun _ => rfl,
    fun _ hf => ldeForms_runBy.result hf fun s => by rw [loadStep_eq, ← BitVec.sub_eq_add_neg],
    fun f hf => linForms_runBy.result hf fun s => loadStep_eq f.what s 1⟩

/-- Settles O24: STA writes its operand, SDE and SIN are `storeStep` down and up. -/
theorem storeResult : Obligations.StoreResult :=
  fun a b => ⟨fun _ hf => (staForms_runBy a b).result hf fun _ => rfl,
    fun _ hf => sdeForms_runBy.result hf fun s => by rw [storeStep_eq, ← BitVec.sub_eq_add_neg],
    fun f hf => sinForms_runBy.result hf fun s => storeStep_eq f.what s 1⟩

/-- Settles O25: every form is one copy from or to X. -/
theorem wideTransfer : Obligations.WideTransfer :=
  ⟨fun _ hf => ldxForms_runBy.result hf fun _ => rfl, fun _ hf => stxForms_runBy.result hf fun _ => rfl⟩

/-- Settles O27: ATT is `setT` of A; TTA's byte is T, whose bits are the five flags. -/
theorem statusTransfer : Obligations.StatusTransfer := by
  obtain ⟨encodes, exec_tta⟩ := ttaForm_runBy.result (List.mem_singleton_self _) fun _ => rfl
  exact ⟨attForm_runBy.result (List.mem_singleton_self _) fun _ => rfl, encodes,
    fun s => ⟨s.t, exec_tta s, t_toNat s⟩⟩

end Sys2Proof.Machine
end

section
/-! PROOFS. Block transfer and search (43_block.md R150, R151): the two forms run by their meanings, and what each
meaning answers in bus cycles, register writes and the unsigned comparison. -/

namespace Sys2Proof.Machine

/-! ### Forms and their meanings -/

theorem tinForm_runBy : RunBy (fun _ => tin) [⟨[0xF5#8], .tin, ()⟩] := ⟨rfl, rfl⟩

theorem cinForm_runBy : RunBy (fun _ => cin) [⟨[0xF7#8], .cin, ()⟩] := ⟨rfl, rfl⟩

/-! ### What each meaning answers -/

section
variable (s : State)

/-- Y stands in registers of its own: writing X leaves it. -/
theorem setPair_x_pair_y (w : Addr) : (s.setPair .x w).pair .y = s.pair .y := rfl

/-- No bus cycle moves X or Y, and X moves before Y without touching it, so the addresses of both cycles and both new
pairs come from the values before the instruction. -/
theorem tin_eq :
    tin s = .next ((((s.busRead .me0 (s.pair .x)).2.busWrite .me0 (s.pair .y) (s.busRead .me0 (s.pair .x)).1).setPair .x
      (s.pair .x + 1)).setPair .y (s.pair .y + 1)) := by
  simp only [tin, State.writeOperand, setPair_x_pair_y, busWrite_pair, readOperand_pair]
  rfl

/-- A pair is written alike before and after the four result flags. -/
theorem setFlags_setPair (p : Pair) (w : Addr) (x : AddResult) :
    (s.setFlags x).setPair p w = (s.setPair p w).setFlags x := by
  cases p <;> rfl

/-- The read cycle leaves A and X, and the flags are those of CPA's comparison. -/
theorem cin_eq :
    cin s = .next { (s.busRead .me0 (s.pair .x)).2.setPair .x (s.pair .x + 1) with
      c := decide ((s.busRead .me0 (s.pair .x)).1.toNat ≤ s.a.toNat),
      z := decide (s.a = (s.busRead .me0 (s.pair .x)).1),
      h := (subMeaning s.a (s.busRead .me0 (s.pair .x)).1 true).h,
      v := (subMeaning s.a (s.busRead .me0 (s.pair .x)).1 true).v } := by
  rw [cin, setFlags_setPair, setFlags_compare, readOperand_a, readOperand_pair]
  rfl

end

/-! ### The instructions -/

/-- Settles O28: TIN is `tin`, one read and one write cycle at the old pairs; CIN is `cin`, one read cycle and CPA's
comparison. -/
theorem blockResult : Obligations.BlockResult :=
  ⟨tinForm_runBy.result (List.mem_singleton_self _) tin_eq, cinForm_runBy.result (List.mem_singleton_self _) cin_eq⟩

end Sys2Proof.Machine
end

section
/-! PROOFS. Rotates and shifts (44_rotate_shift.md R160 to R167): the bits of A and of the byte at X as numbers, and the
forms run by their meanings. -/

namespace Sys2Proof.Machine

/-! ### Bits appended, as numbers -/

/-- Bits appended below are digits of the base `2 ^ n`. -/
theorem append_eq_ofNat {m n : Nat} (hi : BitVec m) (lo : BitVec n) :
    hi ++ lo = BitVec.ofNat (m + n) (2 ^ n * hi.toNat + lo.toNat) := by
  rw [Nat.two_pow_add_eq_or_of_lt lo.isLt, Nat.mul_comm, ← Nat.shiftLeft_eq, ← BitVec.toNat_append,
    BitVec.ofNat_toNat, BitVec.setWidth_eq]

section
variable (a b : Byte) (bit : Bool)

/-- A bit that comes in below doubles the byte; bit 7 is worth 256 then and falls away. -/
theorem append_bit_below : a.extractLsb' 0 7 ++ BitVec.ofBool bit = BitVec.ofNat 8 (2 * a.toNat + bit.toNat) := by
  rw [append_eq_ofNat, BitVec.extractLsb'_toNat, BitVec.toNat_ofBool]
  apply BitVec.eq_of_toNat_eq
  simp only [BitVec.toNat_ofNat, Nat.shiftRight_zero]
  omega

/-- A bit that comes in above stands over the half of the byte. -/
theorem append_bit_above : BitVec.ofBool bit ++ a.extractLsb' 1 7 = BitVec.ofNat 8 (a.toNat / 2 + 128 * bit.toNat) := by
  have half : a.toNat / 2 % 2 ^ 7 = a.toNat / 2 := Nat.mod_eq_of_lt (Nat.div_lt_of_lt_mul a.isLt)
  rw [append_eq_ofNat, BitVec.extractLsb'_toNat, BitVec.toNat_ofBool, Nat.shiftRight_eq_div_pow, Nat.pow_one, half,
    Nat.add_comm (a.toNat / 2)]
  rfl

/-- The low digit of one byte over the high digit of another. -/
theorem append_digits :
    a.extractLsb' 0 4 ++ b.extractLsb' 4 4 = BitVec.ofNat 8 (16 * (a.toNat % 16) + b.toNat / 16) := by
  have high : b.toNat / 2 ^ 4 % 2 ^ 4 = b.toNat / 2 ^ 4 := Nat.mod_eq_of_lt (toNat_div_16_lt b)
  rw [append_eq_ofNat, BitVec.extractLsb'_toNat, BitVec.extractLsb'_toNat, Nat.shiftRight_eq_div_pow _ 4, high]
  rfl

theorem getLsbD_top : a.getLsbD 7 = decide (128 ≤ a.toNat) := BitVec.getLsbD_last a

theorem getLsbD_bottom : a.getLsbD 0 = decide (a.toNat % 2 = 1) := Nat.testBit_zero a.toNat

end

/-! ### Forms and their meanings -/

theorem rolForm_runBy :
    RunBy (fun _ s => shiftA (s.a.getLsbD 7) (s.a.extractLsb' 0 7 ++ BitVec.ofBool s.c) s) [⟨[0xDB#8], .rol, ()⟩] :=
  ⟨rfl, rfl⟩

theorem rorForm_runBy :
    RunBy (fun _ s => shiftA (s.a.getLsbD 0) (BitVec.ofBool s.c ++ s.a.extractLsb' 1 7) s) [⟨[0xD1#8], .ror, ()⟩] :=
  ⟨rfl, rfl⟩

/-- SHL is ROL with a 0 coming in. -/
theorem shlForm_runBy :
    RunBy (fun _ s => shiftA (s.a.getLsbD 7) (s.a.extractLsb' 0 7 ++ BitVec.ofBool false) s) [⟨[0xD9#8], .shl, ()⟩] :=
  ⟨rfl, rfl⟩

/-- SHR is ROR with a 0 coming in. -/
theorem shrForm_runBy :
    RunBy (fun _ s => shiftA (s.a.getLsbD 0) (BitVec.ofBool false ++ s.a.extractLsb' 1 7) s) [⟨[0xD5#8], .shr, ()⟩] :=
  ⟨rfl, rfl⟩

theorem drlForms_runBy : RunBy drl drlForms := ⟨rfl, rfl⟩

theorem drrForms_runBy : RunBy drr drrForms := ⟨rfl, rfl⟩

theorem aexForm_runBy :
    RunBy (fun _ s => .next { s with a := s.a.extractLsb' 0 4 ++ s.a.extractLsb' 4 4 }) [⟨[0xF1#8], .aex, ()⟩] :=
  ⟨rfl, rfl⟩

/-! ### What each meaning answers -/

section
variable {out : State → Bool} {v : State → Byte} {f : Form Unit}

/-- What a form answers that is run by `shiftA`: the new A, the bit going out, and H, V, Z of which nothing is said. -/
theorem RunBy.shiftA_result (hrun : RunBy (fun _ s => shiftA (out s) (v s) s) [f]) {c : State → Bool} {a : State → Byte}
    (hc : ∀ s, out s = c s) (ha : ∀ s, v s = a s) :
    f.Encodes ∧ ∀ s : State, ∃ h v z, Machine.exec f.instr s = .next { s with
      a := a s, c := c s, h := h, v := v, z := z, draws := s.draws + 3 } := by
  have shift (s : State) : shiftA (out s) (v s) s = shiftA (c s) (a s) s := by rw [hc, ha]
  exact (hrun.result (List.mem_singleton_self f) shift).imp_right fun exec_eq s => ⟨_, _, _, exec_eq s⟩

end

section
variable (sp : Space) (s : State)

/-- The read cycle leaves A and X, so both cycles are at the old X and the high digit is that of the old A. -/
theorem drl_eq :
    drl sp s = .next { (s.busRead sp (s.pair .x)).2.busWrite sp (s.pair .x)
      (BitVec.ofNat 8 (16 * ((s.busRead sp (s.pair .x)).1.toNat % 16) + s.a.toNat / 16)) with
        a := (s.busRead sp (s.pair .x)).1 } := by
  simp only [drl, State.writeOperand, append_digits, readOperand_a, readOperand_pair]
  rfl

/-- The read cycle leaves A and X, so both cycles are at the old X and the low digit is that of the old A. -/
theorem drr_eq :
    drr sp s = .next { (s.busRead sp (s.pair .x)).2.busWrite sp (s.pair .x)
      (BitVec.ofNat 8 (16 * (s.a.toNat % 16) + (s.busRead sp (s.pair .x)).1.toNat / 16)) with
        a := (s.busRead sp (s.pair .x)).1 } := by
  simp only [drr, State.writeOperand, append_digits, readOperand_a, readOperand_pair]
  rfl

end

/-! ### The instructions -/

/-- Settles O29: the four are `shiftA`, to the left with bit 7 going out and to the right with bit 0; C comes in for the
rotates and 0 for the shifts. -/
theorem rotateShiftResult : Obligations.RotateShiftResult :=
  ⟨rolForm_runBy.shiftA_result (fun s => getLsbD_top s.a) fun s => append_bit_below s.a s.c,
    rorForm_runBy.shiftA_result (fun s => getLsbD_bottom s.a) fun s => append_bit_above s.a s.c,
    shlForm_runBy.shiftA_result (fun s => getLsbD_top s.a) fun s => append_bit_below s.a false,
    shrForm_runBy.shiftA_result (fun s => getLsbD_bottom s.a) fun s => append_bit_above s.a false⟩

/-- Settles O30: DRL is `drl` and DRR is `drr` of the space, one read and one write cycle at X; AEX is A's own low digit
over its high digit. -/
theorem digitResult : Obligations.DigitResult :=
  ⟨fun f hf => drlForms_runBy.result hf (drl_eq f.what), fun f hf => drrForms_runBy.result hf (drr_eq f.what),
    aexForm_runBy.result (List.mem_singleton_self _) fun s => by rw [append_digits]⟩

end Sys2Proof.Machine
end

section
/-! PROOFS. CPU control (45_cpu_control.md R170 to R187): the encodings of the instructions without operand, the load of
TM as a number, what the pulse of ATP changes in the controllers, and the turn of a halted CPU. -/

namespace Sys2Proof.Machine

/-! ### Tables of encodings -/

/-- A table whose rows are the encodings of their instructions, whatever each of them does. -/
theorem Form.encodes_of_mem {α : Type} {table : List (Form α)}
    (h : table.map (fun f => encode f.instr) = table.map Form.bytes) {f : Form α} (hf : f ∈ table) : f.Encodes :=
  fun rest => List.map_inj_left.mp h f hf ▸ decode_encode f.instr rest

/-- Settles O31: each of these instructions is one update of the state. -/
theorem flipFlopResult : Obligations.FlipFlopResult :=
  ⟨fun _ => Form.encodes_of_mem rfl,
    fun _ => ⟨rfl, rfl, rfl, rfl, rfl, rfl, rfl, rfl, rfl, rfl, rfl, rfl, rfl, rfl⟩⟩

/-! ### The load of TM -/

section
variable (s : State)

/-- `0 : A` as a number. -/
theorem execAm0_eq : execAm0 s = .next { s with tm := BitVec.ofNat 9 s.a.toNat } := by
  rw [execAm0, append_eq_ofNat, BitVec.toNat_zero, Nat.mul_zero, Nat.zero_add]

/-- `1 : A` as a number; below 1FFH nothing else changes. -/
theorem am1_of_ne_FF (h : s.a ≠ 0xFF#8) : am1 s = .next { s with tm := BitVec.ofNat 9 (256 + s.a.toNat) } := by
  rw [am1, if_neg h, append_eq_ofNat]
  rfl

/-- Loading 1FFH itself draws the free bit that may set IR1 (D15). -/
theorem am1_of_eq_FF (h : s.a = 0xFF#8) :
    am1 s = .next { s with tm := 0x1FF#9, ir1 := s.ir1 || Config.freeBit s.draws, draws := s.draws + 1 } := by
  rw [am1, if_pos h, h]
  rfl

end

/-- Settles O32: AM1 by whether A is FFH, the witness of the open case being the bit the model draws. -/
theorem timerLoadResult : Obligations.TimerLoadResult :=
  ⟨fun _ => Form.encodes_of_mem rfl,
    fun s => ⟨execAm0_eq s, am1_of_ne_FF s, fun h => ⟨Config.freeBit s.draws, am1_of_eq_FF s h⟩⟩⟩

/-! ### The ports -/

/-- Latching changes the controllers and the count of draws alone: IR2 keeps its value, since OPC is no part of INT. -/
theorem latchPorts_changes (s : State) (us : List IocUnit) :
    s.latchPorts us = { s with iocs := (s.latchPorts us).iocs, draws := (s.latchPorts us).draws } := by
  have hir2 := latchPorts_ir2 s us
  obtain ⟨c, r, n, h⟩ := latchPorts_parts s us
  rw [h] at hir2 ⊢
  cases hir2
  rfl

/-- The host is given A with X on the address bus, and the wired controllers latch A. -/
theorem atp_eq (s : State) : atp s =
    .next (State.latchPorts { s with out := .portOut s.a (s.pair .x) :: s.out } s.board.phiLatch) := rfl

/-- Settles O33: ITA is one update; ATP gives the host A and latches it, which without a wired controller is all. -/
theorem portResult : Obligations.PortResult := by
  refine ⟨fun _ => Form.encodes_of_mem rfl, fun s => ⟨rfl, fun hnone => ?unwired, ?latched⟩⟩
  case unwired =>
    refine (atp_eq s).trans ?_
    rw [hnone]
    rfl
  case latched =>
    exact ⟨_, _, (atp_eq s).trans (congrArg _ (latchPorts_changes _ _)), latchPorts_ioc _ _⟩

/-! ### The halt -/

/-- Some request, taken or not, releases the halt (the open parameter of D8). -/
def State.haltReleased (s : State) : Bool := Config.hltWakeIgnoresIE && (s.ir0 || s.ir1 || s.ir2)

section
variable {s : State}

theorem haltReleased_of_wake_off (h : Config.hltWakeIgnoresIE = false) : s.haltReleased = false := by
  rw [State.haltReleased, h, Bool.false_and]

theorem haltReleased_of_no_request (h0 : s.ir0 = false) (h1 : s.ir1 = false) (h2 : s.ir2 = false) :
    s.haltReleased = false := by
  simp [State.haltReleased, h0, h1, h2]

@[simp] theorem popMove_haltReleased : s.popMove.haltReleased = s.haltReleased := by
  simp [State.haltReleased]

/-- A halted CPU changes at most the halt. -/
theorem stayHalted_eq (hh : s.halted = true) : s.stayHalted = { s with halted := !s.haltReleased } := by
  change (if s.haltReleased then _ else s) = _
  cases s.haltReleased with
  | true => rfl
  | false => simp [← hh]

/-- A CPU step that is not stalled or interrupted does to a halted CPU what the halt does. -/
theorem cpuStep_of_halted (hw : s.wa = false) (hp : s.pendingInterrupt = none) (hh : s.halted = true) :
    s.cpuStep = .next s.stayHalted := by
  simp [State.cpuStep, hw, hp, hh]

end

/-- Settles O54: taking the turn leaves the halt and the requests, and the step then changes at most the halt. -/
theorem haltedCpuWaits : Obligations.HaltedCpuWaits := by
  intro s hturn hw hp hh
  have hstep : step s = .next { s.popMove with halted := !s.haltReleased } := by
    rw [step_of_cpuTurn hturn, cpuStep_of_halted (by simpa) (by simpa) (by simpa), stayHalted_eq (by simpa),
      popMove_haltReleased]
  refine ⟨!s.haltReleased, hstep, fun hwake => ?_, fun h0 h1 h2 => ?_⟩
  · rw [haltReleased_of_wake_off hwake, Bool.not_false]
  · rw [haltReleased_of_no_request h0 h1 h2, Bool.not_false]

end Sys2Proof.Machine
end

section
/-! PROOFS. Jumps (46_jump.md R200 to R210): BCH and the conditional branches are one move of P by a signed distance,
made when a flag has the value the form names. -/

namespace Sys2Proof.Machine

/-! ### The condition and the move of a branch -/

/-- The flag has the value named; in the model's terms the flag itself or its negation. -/
def State.flagIs (s : State) (g : Flag) : Bool → Bool
  | true => s.flag g
  | false => !s.flag g

theorem flagIs_iff (s : State) (g : Flag) (v : Bool) : s.flagIs g v = true ↔ s.flag g = v := by
  cases v with
  | true => exact Iff.rfl
  | false => exact .of_eq (Bool.not_eq_true' _)

/-- The branch of either sign: `back` says whether the distance is subtracted. -/
def branchBy (back cond : Bool) (i : Byte) : State → Result :=
  match back with
  | true => branchBack cond i
  | false => branchForward cond i

/-! ### Forms and their meanings -/

theorem jmpForm_runBy (i j : Byte) :
    RunBy (fun _ s => .next { s with p := ofBytes i j }) [⟨[0xBA#8, i, j], .jmp i j, ()⟩] := ⟨rfl, rfl⟩

/-- BCH is the branch whose condition always holds. -/
theorem bchForms_runBy (i : Byte) : RunBy (fun back => branchBy back true i) (bchForms i) := ⟨rfl, rfl⟩

theorem branchForms_runBy (i : Byte) :
    RunBy (fun w s => branchBy w.2.2 (s.flagIs w.1 w.2.1) i s) (branchForms i) := ⟨rfl, rfl⟩

theorem lopForm_runBy (i : Byte) : RunBy (fun _ => lop i) [⟨[0x88#8, i], .lop i, ()⟩] := ⟨rfl, rfl⟩

/-! ### What each meaning answers -/

section
variable (back : Bool) (i : Byte) (s : State)

theorem branchBy_true :
    branchBy back true i s = .next { s with p := if back then s.p - i.setWidth 16 else s.p + i.setWidth 16 } := by
  cases back <;> rfl

theorem branchBy_false : branchBy back false i s = .next s := by
  cases back <;> rfl

/-- Not taken is P with its old value, so one update of P says both cases. -/
theorem branchBy_flagIs_eq (g : Flag) (v : Bool) :
    branchBy back (s.flagIs g v) i s = .next { s with
      p := if s.flag g = v then (if back then s.p - i.setWidth 16 else s.p + i.setWidth 16) else s.p } := by
  by_cases taken : s.flag g = v
  · rw [(flagIs_iff s g v).mpr taken, branchBy_true, if_pos taken]
  · rw [Bool.eq_false_iff.mpr (mt (flagIs_iff s g v).mp taken), branchBy_false, if_neg taken]

/-- LOP counts UL down either way; P moves back unless the decrement borrowed (R210). -/
theorem lop_eq :
    lop i s = .next { s with ul := s.ul - 1, p := if s.ul = 0#8 then s.p else s.p - i.setWidth 16 } := by
  by_cases borrow : s.ul = 0#8
  · rw [lop, if_pos borrow, if_pos borrow]
  · rw [lop, if_neg borrow, if_neg borrow]

end

/-! ### The instructions -/

/-- Settles O34: JMP is one update, BCH the branch that is always made, LOP by whether its decrement borrows. -/
theorem jumpResult : Obligations.JumpResult :=
  fun i j => ⟨(jmpForm_runBy i j).result (List.mem_singleton_self _) fun _ => rfl,
    fun f hf => (bchForms_runBy i).result hf (branchBy_true f.what i),
    (lopForm_runBy i).result (List.mem_singleton_self _) (lop_eq i)⟩

/-- Settles O35: every form is the branch of its sign on its flag, which writes P alone. -/
theorem branchResult : Obligations.BranchResult :=
  fun i f hf => (branchForms_runBy i).result hf fun s => branchBy_flagIs_eq f.what.2.2 i s f.what.1 f.what.2.1

end Sys2Proof.Machine
end

section
/-! PROOFS. Subroutine calls (47_subroutine.md R220 to R229): the push of the return address and the vector call as the
rules list them, and the three answers of a conditional vector call. -/

namespace Sys2Proof.Machine

/-! ### Forms and their meanings -/

theorem sjpForm_runBy (i j : Byte) : RunBy (fun _ => execSjp i j) [⟨[0xBE#8, i, j], .sjp i j, ()⟩] := ⟨rfl, rfl⟩

theorem vejForms_runBy : RunBy (fun i s => .next (s.vectorCall i)) vejForms := ⟨rfl, rfl⟩

/-- VMJ is the vector call whose condition always holds. -/
theorem vmjForm_runBy (i : Byte) : RunBy (fun _ => vectorCallIf true i) [⟨[0xCD#8, i], .vmj i, ()⟩] := ⟨rfl, rfl⟩

theorem vectorIfForms_runBy (i : Byte) :
    RunBy (fun w s => vectorCallIf (s.flagIs w.1 w.2) i s) (vectorIfForms i) := ⟨rfl, rfl⟩

/-! ### What each meaning answers -/

/-- The address of a vector, byte over byte, is its offset above FF00H. -/
theorem ofBytes_FF (i : Byte) : ofBytes 0xFF#8 i = 0xFF00#16 + i.setWidth 16 := by
  have hsum : (ofBytes 0xFF#8 i).toNat = 256 * 255 + i.toNat := ofBytes_toNat 0xFF#8 i
  bv_omega

theorem vectorOperandOk_iff {i : Byte} : vectorOperandOk i = true ↔ i.toNat % 2 = 0 ∧ i.toNat ≤ 0xF6 := by
  rw [vectorOperandOk, Bool.and_eq_true, decide_eq_true_iff, decide_eq_true_iff]

section
variable (i : Byte) (s : State)

/-- The push of P is the storing of the return address. -/
theorem push16_returnAddress : s.push16 s.p = returnPushed s := push16_eq s s.p

theorem execSjp_eq (j : Byte) : execSjp i j s = .next { returnPushed s with p := ofBytes i j } := by
  rw [execSjp, push16_returnAddress]

theorem vectorCall_eq : s.vectorCall i = vectorCalled i s := by
  rw [State.vectorCall, push16_returnAddress, ofBytes_FF]
  rfl

theorem vectorCallIf_false : vectorCallIf false i s = .next s := rfl

variable {i}

theorem vectorCallIf_true_of_allowed (hi : i.toNat % 2 = 0 ∧ i.toNat ≤ 0xF6) :
    vectorCallIf true i s = .next (vectorCalled i s) := by
  rw [vectorCallIf, if_pos rfl, if_pos (vectorOperandOk_iff.mpr hi), vectorCall_eq]

theorem vectorCallIf_true_of_reserved (hi : ¬ (i.toNat % 2 = 0 ∧ i.toNat ≤ 0xF6)) :
    vectorCallIf true i s = .fault (.reservedOperand i) := by
  rw [vectorCallIf, if_pos rfl, if_neg (mt vectorOperandOk_iff.mp hi)]

end

/-! ### The instructions -/

/-- Settles O36: SJP is the push and one update of P, each VEJ the vector call with the offset its opcode names. -/
theorem callResult : Obligations.CallResult :=
  ⟨fun i j => (sjpForm_runBy i j).result (List.mem_singleton_self _) fun s => execSjp_eq i s j,
    fun f hf => vejForms_runBy.result hf fun s => congrArg _ (vectorCall_eq f.what s)⟩

/-- Settles O37: a form is the vector call on its flag, so the flag says whether it is made, and only then the operand
whether it stops. -/
theorem vectorCallResult : Obligations.VectorCallResult := by
  intro i
  constructor
  case left =>
    obtain ⟨hencodes, hexec⟩ := (vmjForm_runBy i).result (List.mem_singleton_self _) fun _ => rfl
    exact ⟨hencodes, fun s => ⟨fun hi => (hexec s).trans (vectorCallIf_true_of_allowed s hi),
      fun hi => (hexec s).trans (vectorCallIf_true_of_reserved s hi)⟩⟩
  case right =>
    intro f hf
    obtain ⟨hencodes, hexec⟩ := (vectorIfForms_runBy i).result hf fun _ => rfl
    refine ⟨hencodes, fun s => ?_⟩
    have hmade (h : s.flag f.what.1 = f.what.2) : exec f.instr s = vectorCallIf true i s := by
      rw [hexec, (flagIs_iff s _ _).mpr h]
    have hnot (h : s.flag f.what.1 ≠ f.what.2) : exec f.instr s = vectorCallIf false i s := by
      rw [hexec, Bool.eq_false_iff.mpr (mt (flagIs_iff s _ _).mp h)]
    exact ⟨fun h => (hnot h).trans (vectorCallIf_false i s),
      fun h hi => (hmade h).trans (vectorCallIf_true_of_allowed s hi),
      fun h hi => (hmade h).trans (vectorCallIf_true_of_reserved s hi)⟩

end Sys2Proof.Machine
end

section
/-! PROOFS. What keeps an interrupt request set (60_exceptions.md R304): every operation of an instruction, the entry of
another interrupt, and every agent's move but reset. -/

namespace Sys2Proof.Machine

variable {s t : State} {n m : Interrupt}

/-! ### The request of an interrupt -/

/-- The request flip-flop of an interrupt (10_state.md R26). -/
def State.request (s : State) : Interrupt → Bool
  | .nmi => s.ir0
  | .timer => s.ir1
  | .maskable => s.ir2

theorem request_clearRequest (s : State) (n m : Interrupt) :
    (s.clearRequest n).request m = if m = n then false else s.request m := by
  cases n <;> cases m <;> rfl

@[simp] theorem popMove_request (s : State) (m : Interrupt) : s.popMove.request m = s.request m := by
  cases m <;> simp [State.request]

/-- What has a frame, whatever parts it writes, keeps every request that is set. -/
theorem Frame.request_set {w : List Slot} (h : Frame w s t) (hm : s.request m = true) : t.request m = true := by
  cases m with
  | nmi => exact h.surroundings.ir0.trans hm
  | timer => exact h.surroundings.ir1_set hm
  | maskable => exact h.surroundings.ir2_set hm

/-! ### What each move does to a request -/

/-- An interrupt entry from the push of P on. -/
theorem enter_frame (s : State) (a : Addr) : Frame [.sp, .p, .halted] s
    { ((s.push16 s.p).readVector a).2 with p := ((s.push16 s.p).readVector a).1, halted := false } := by
  have hread := (push16_frame s s.p).trans (readVector_frame _ a)
  exact (hread.trans (with_p_frame _ ((s.push16 s.p).readVector a).1)).trans (with_halted_frame _ false)

/-- An interrupt entry clears its own request alone. -/
theorem takeInterrupt_request_set (hm : s.request m = true) (hne : m ≠ n) : (s.takeInterrupt n).request m = true := by
  have hpushed := ((push_frame s s.t).trans (with_ie_frame _ false)).request_set hm
  exact (enter_frame _ n.vector).request_set (by rwa [request_clearRequest, if_neg hne])

theorem stayHalted_request (s : State) (m : Interrupt) : s.stayHalted.request m = s.request m := by
  unfold State.stayHalted
  split <;> cases m <;> rfl

/-- A CPU step keeps every request but that of the interrupt it takes. -/
theorem cpuStep_request_set (h : s.cpuStep = .next t) (hm : s.request m = true) (hne : s.pendingInterrupt ≠ some m) :
    t.request m = true := by
  obtain ⟨-, rfl⟩ | ⟨n, -, hn, rfl⟩ | ⟨-, -, -, rfl⟩ | ⟨-, -, -, i, -, hexec⟩ := cpuStep_cases h
  · exact hm
  · exact takeInterrupt_request_set hm fun e => hne (e ▸ hn)
  · rwa [stayHalted_request]
  · exact (exec_frame hexec).request_set ((fetchInstr_frame s).request_set hm)

theorem setIoc_request_set (u : IocUnit) (d : Ioc) (hm : s.request m = true) : (s.setIoc u d).request m = true := by
  cases m with
  | nmi | timer => exact hm
  | maskable => exact (setIoc_ir2 s u d).trans (Bool.or_eq_true_iff.mpr (.inl hm))

/-- No agent but the CPU clears a request, reset apart: the timer and the pins only set one. -/
theorem hostMove_request_set {mv : Move} (h : s.hostMove mv = some t) (hreset : mv ≠ .reset)
    (hm : s.request m = true) : t.request m = true := by
  cases mv with
  | reset => exact absurd rfl hreset
  | cpu | busMaster => cases h
  | timer | nmi | mi => cases h; cases m <;> simp_all [State.request, State.timerStep]
  | ioc u e =>
    cases h
    cases e with
    | reset => cases m <;> exact hm
    | _ => exact setIoc_request_set u _ hm
  | divider | bfi | inPins _ | wait _ => cases h; cases m <;> exact hm

/-- Every step keeps every request that is set, but for the entry of its interrupt and reset. -/
theorem step_request_set (h : step s = .next t) (hreset : ¬ s.nextMove .reset) (hm : s.request m = true)
    (hentry : ¬ (s.cpuTurn ∧ s.pendingInterrupt = some m)) : t.request m = true := by
  have hpop : s.popMove.request m = true := (popMove_request s m).trans hm
  obtain ⟨hturn, hcpu⟩ | ⟨-, hhost⟩ := step_cases h
  · exact cpuStep_request_set hcpu hpop fun e => hentry ⟨hturn, popMove_pendingInterrupt s ▸ e⟩
  · exact hostMove_request_set hhost hreset hpop

/-- Settles O44: each of the three flip-flops is the request of one interrupt. -/
theorem requestsAreKept : Obligations.RequestsAreKept := fun _ _ h hreset =>
  ⟨step_request_set (m := .nmi) h hreset, step_request_set (m := .timer) h hreset,
    step_request_set (m := .maskable) h hreset⟩

end Sys2Proof.Machine
end

section
/-! PROOFS. Interrupts (60_exceptions.md R302 to R313): which one the check takes, and the entry as its rules list it. -/

namespace Sys2Proof.Machine

/-! ### The check -/

section
variable {s : State}

theorem pendingInterrupt_of_nmi (h : s.ir0 = true) : s.pendingInterrupt = some .nmi := if_pos h

/-- Without a non-maskable request nothing is taken while IE is reset or no other request is set. -/
theorem pendingInterrupt_of_masked (h0 : s.ir0 = false) (h : (s.ie && (s.ir1 || s.ir2)) = false) :
    s.pendingInterrupt = none := by
  simp [State.pendingInterrupt, h0, h]

/-- Without a non-maskable request, and IE set: of two requests one by the open order, else the one that is set. -/
theorem pendingInterrupt_of_unmasked (h0 : s.ir0 = false) (hie : s.ie = true) (h : (s.ir1 || s.ir2) = true) :
    s.pendingInterrupt =
      if s.ir1 && s.ir2 then (if Config.miBeforeTimer then some .maskable else some .timer)
      else if s.ir1 then some .timer else some .maskable := by
  simp only [State.pendingInterrupt, h0, hie, h, Bool.and_self, Bool.false_eq_true, if_true, if_false]

end

/-- Settles O50: with both requests set the open parameter of D4 decides, whatever its value. -/
theorem interruptCheck : Obligations.InterruptCheck := by
  intro s
  refine ⟨pendingInterrupt_of_nmi, fun h0 hie h1 h2 => ?timer, fun h0 hie h1 h2 => ?maskable, fun h0 hie h1 h2 => ?both,
    fun h0 hie => pendingInterrupt_of_masked h0 (by simp [hie]),
    fun h0 h1 h2 => pendingInterrupt_of_masked h0 (by simp [h1, h2])⟩
  all_goals rw [pendingInterrupt_of_unmasked h0 hie (by simp [h1, h2]), h1, h2]
  case timer => rfl
  case maskable => rfl
  case both =>
    cases Config.miBeforeTimer with
    | true => exact .inr rfl
    | false => exact .inl rfl

/-! ### The entry -/

section
variable (s : State) (n : Interrupt)

/-- IE and of the three requests that of this interrupt are cleared. -/
theorem clearRequest_eq : { s with ie := false }.clearRequest n = { s with
    ie := false
    ir0 := if n = .nmi then false else s.ir0
    ir1 := if n = .timer then false else s.ir1
    ir2 := if n = .maskable then false else s.ir2 } := by
  cases n <;> rfl

theorem clearRequest_with_sp (w : Addr) :
    ({ s with sp := w } : State).clearRequest n = { s.clearRequest n with sp := w } := by
  cases n <;> rfl

/-- The bus cycles of a 16-bit push do not look at S, but at the address it gives. -/
theorem push16_with_sp (w v : Addr) : ({ s with sp := w } : State).push16 v =
    { (s.busWrite .me0 w (loByte v)).busWrite .me0 (w - 1) (hiByte v) with sp := w - 2 } := by
  rw [push16_eq, busWrite_with_sp s, busWrite_with_sp (s.busWrite .me0 w (loByte v))]

/-- A vector read does not look at S. -/
theorem readVector_with_sp (w a : Addr) :
    ({ s with sp := w } : State).readVector a = ((s.readVector a).1, { (s.readVector a).2 with sp := w }) := by
  unfold State.readVector
  dsimp only
  rw [busRead_with_sp s]
  dsimp only
  rw [busRead_with_sp (s.busRead .me0 a).2]

/-- The two pushes of an entry, with IE and the request cleared between them, as write cycles. -/
theorem entry_pushes : ({ s.push s.t with ie := false }.clearRequest n).push16 s.p =
    { (({ s.busWrite .me0 s.sp s.t with ie := false }.clearRequest n).busWrite .me0 (s.sp - 1) (loByte s.p)).busWrite
        .me0 (s.sp - 2) (hiByte s.p) with sp := s.sp - 3 } := by
  have hs2 : s.sp - 1 - 1 = s.sp - 2 := by bv_omega
  have hs3 : s.sp - 1 - 2 = s.sp - 3 := by bv_omega
  rw [push_eq]
  exact (congrArg (State.push16 · s.p) (clearRequest_with_sp { s.busWrite .me0 s.sp s.t with ie := false } n _)).trans
    ((push16_with_sp _ _ _).trans (by rw [hs2, hs3]))

/-- The entry that the model takes is the sequence of R310 to R312. -/
theorem takeInterrupt_eq : s.takeInterrupt n = interruptEntered n s := by
  have hp : ({ s.push s.t with ie := false }.clearRequest n).p = s.p := by simp
  unfold State.takeInterrupt
  dsimp only
  rw [hp, entry_pushes, clearRequest_eq, readVector_with_sp]
  unfold interruptEntered State.readVector
  cases n <;> dsimp only [Interrupt.vector]

end

/-- The CPU step with its clock running takes the interrupt the check gives, halted or not. -/
theorem cpuStep_of_pending {s : State} {n : Interrupt} (hw : s.wa = false) (hp : s.pendingInterrupt = some n) :
    s.cpuStep = .next (s.takeInterrupt n) := by
  simp [State.cpuStep, hw, hp]

/-- Settles O51: taking the turn leaves WA and what the check takes, and the entry is `takeInterrupt_eq`. -/
theorem interruptEntry : Obligations.InterruptEntry := by
  intro s n hturn hw hp
  rw [step_of_cpuTurn hturn, cpuStep_of_pending (by simpa) (by simpa), takeInterrupt_eq]

end Sys2Proof.Machine
end

section
/-! PROOFS. Returns (48_return.md R240, R241): what RTN and RTI answer, and that they undo a call and an interrupt entry
whose bytes still stand on the stack. -/

namespace Sys2Proof.Machine

/-! ### Forms and their meanings -/

theorem rtnForm_runBy : RunBy (fun _ s => .next s.popP) [⟨[0x9A#8], .rtn, ()⟩] := ⟨rfl, rfl⟩

theorem rtiForm_runBy : RunBy (fun _ s => .next s.returnFromInterrupt) [⟨[0x8A#8], .rti, ()⟩] := ⟨rfl, rfl⟩

/-! ### What each meaning answers -/

section
variable (s : State)

/-- A pop reads above the S it finds and does not look at P. -/
theorem pop_with_sp_p (w q : Addr) : ({ s with sp := w, p := q } : State).pop =
    ((s.busRead .me0 (w + 1)).1, { (s.busRead .me0 (w + 1)).2 with sp := w + 1, p := q }) := by
  have h : ({ s with sp := w + 1, p := q } : State).resolve .me0 (w + 1) = s.resolve .me0 (w + 1) := rfl
  unfold State.pop State.busRead
  dsimp only
  rw [h]
  cases s.resolve .me0 (w + 1) <;> rfl

/-- RTI pops P as RTN does, and then T from S + 3. -/
theorem returnFromInterrupt_eq :
    let hi := s.busRead .me0 (s.sp + 1)
    let lo := hi.2.busRead .me0 (s.sp + 2)
    let t := lo.2.busRead .me0 (s.sp + 3)
    s.returnFromInterrupt = State.setT { t.2 with sp := s.sp + 3, p := ofBytes hi.1 lo.1 } t.1 := by
  intro hi lo t
  have hsp : s.sp + 2 + 1 = s.sp + 3 := by bv_omega
  rw [State.returnFromInterrupt, popP_eq, pop_with_sp_p, hsp]

/-- The five flags are the bits 0 to 4 of T. -/
theorem t_getLsbD : s.t.getLsbD 0 = s.c ∧ s.t.getLsbD 1 = s.ie ∧ s.t.getLsbD 2 = s.z ∧ s.t.getLsbD 3 = s.v ∧
    s.t.getLsbD 4 = s.h := by
  simp only [State.t, BitVec.getLsbD_append]
  simp

end

/-- Settles O38: RTN is `popP`, RTI pops T after it. -/
theorem returnResult : Obligations.ReturnResult := by
  obtain ⟨hrtn, hpopP⟩ := rtnForm_runBy.result (List.mem_singleton_self _) fun s => congrArg _ (popP_eq s)
  obtain ⟨hrti, hpopT⟩ := rtiForm_runBy.result (List.mem_singleton_self _) fun s =>
    congrArg _ (returnFromInterrupt_eq s)
  exact ⟨hrtn, hrti, fun s => ⟨hpopP s, hpopT s⟩⟩

/-! ### Bytes that still stand on the stack -/

section
variable {u : State} {w : Addr} {j k l : Nat}

/-- RTN, where the two bytes of `w` stand in cells above S, the high byte first. -/
theorem exec_rtn_of_readCell (hk : u.readCell .me0 (u.sp + 1) = some k) (hj : u.readCell .me0 (u.sp + 2) = some j)
    (hhigh : u.mem.read k = hiByte w) (hlow : u.mem.read j = loByte w) :
    exec .rtn u = .next { u with p := w, sp := u.sp + 2 } := by
  obtain ⟨-, -, hresult⟩ := returnResult
  rw [(hresult u).1, busRead_of_readCell hk, busRead_of_readCell hj, hhigh, hlow, ofBytes_hiByte_loByte]

/-- RTI, where the two bytes of `w` and a byte of T stand in cells above S. -/
theorem exec_rti_of_readCell {s : State} (hk : u.readCell .me0 (u.sp + 1) = some k)
    (hj : u.readCell .me0 (u.sp + 2) = some j) (hl : u.readCell .me0 (u.sp + 3) = some l)
    (hhigh : u.mem.read k = hiByte w) (hlow : u.mem.read j = loByte w) (hT : u.mem.read l = s.t) :
    exec .rti u = .next { u with p := w, sp := u.sp + 3, c := s.c, ie := s.ie, z := s.z, v := s.v, h := s.h } := by
  obtain ⟨-, -, hresult⟩ := returnResult
  obtain ⟨hc, hie, hz, hv, hh⟩ := t_getLsbD s
  rw [(hresult u).2, busRead_of_readCell hk, busRead_of_readCell hj, busRead_of_readCell hl, hhigh, hlow, hT,
    ofBytes_hiByte_loByte, hc, hie, hz, hv, hh]

end

/-! ### What a call and an interrupt entry leave on the stack -/

section
variable {s t : State} {i : Byte} {j0 j1 j2 : Nat}

/-- A call has pushed P: its bytes in memory, and S down by two. -/
structure PushedP (s t : State) : Prop where
  sp : t.sp = s.sp - 2
  mem : t.mem = (s.push16 s.p).mem

theorem pushedP_of_sjp {i j : Byte} (h : exec (.sjp i j) s = .next t) : PushedP s t := by
  cases h
  exact ⟨push16_sp s s.p, rfl⟩

theorem vectorCall_pushedP (s : State) (i : Byte) : PushedP s (s.vectorCall i) :=
  ⟨by simp [State.vectorCall], vectorCall_mem i⟩

theorem pushedP_of_vectorCallIf (h : vectorCallIf true i s = .next t) : PushedP s t := by
  by_cases hi : i.toNat % 2 = 0 ∧ i.toNat ≤ 0xF6
  · rw [vectorCallIf_true_of_allowed s hi, ← vectorCall_eq] at h
    cases h
    exact vectorCall_pushedP s i
  · rw [vectorCallIf_true_of_reserved s hi] at h
    cases h

/-- A conditional vector call whose flag has its value makes the call, as VMJ always does. -/
theorem pushedP_of_vectorIf {f : Form (Flag × Bool)} (hf : f ∈ vectorIfForms i) (h : exec f.instr s = .next t)
    (hmade : s.flag f.what.1 = f.what.2) : PushedP s t := by
  rw [(vectorIfForms_runBy i).exec hf, (flagIs_iff s _ _).mpr hmade] at h
  exact pushedP_of_vectorCallIf h

theorem pushedP_of_vej {f : Form Byte} (hf : f ∈ vejForms) (h : exec f.instr s = .next t) : PushedP s t := by
  rw [vejForms_runBy.exec hf] at h
  cases h
  exact vectorCall_pushedP s f.what

/-- An interrupt entry leaves S down by three. -/
theorem takeInterrupt_sp (s : State) (n : Interrupt) : (s.takeInterrupt n).sp = s.sp - 3 := by
  rw [takeInterrupt_eq]
  rfl

/-- The three bytes of an interrupt entry: T at S, PL at S - 1, PH at S - 2. -/
theorem takeInterrupt_read (n : Interrupt) (h : s.Inv) (h0 : s.ramCell .me0 s.sp = some j0)
    (h1 : s.ramCell .me0 (s.sp - 1) = some j1) (h2 : s.ramCell .me0 (s.sp - 2) = some j2)
    (h01 : j0 ≠ j1) (h02 : j0 ≠ j2) (h12 : j1 ≠ j2) :
    (s.takeInterrupt n).mem.read j0 = s.t ∧ (s.takeInterrupt n).mem.read j1 = loByte s.p ∧
    (s.takeInterrupt n).mem.read j2 = hiByte s.p := by
  have hsp : (s.push s.t).sp = s.sp - 1 := push_sp s s.t
  have hsp1 : (s.push s.t).sp - 1 = s.sp - 2 := by
    rw [hsp]
    bv_omega
  have hcell1 : (s.push s.t).ramCell .me0 (s.push s.t).sp = some j1 := by rw [ramCell_push, hsp, h1]
  have hcell2 : (s.push s.t).ramCell .me0 ((s.push s.t).sp - 1) = some j2 := by rw [ramCell_push, hsp1, h2]
  have hT : ((s.push s.t).push16 s.p).mem.read j0 = (s.push s.t).mem.read j0 :=
    push16_read_other _ _ (by rw [hcell1]; exact fun e => h01 (Option.some.inj e).symm)
      (by rw [hcell2]; exact fun e => h02 (Option.some.inj e).symm)
  obtain ⟨hlow, hhigh⟩ := push16_read (push_wf h s.t) hcell1 hcell2 h12 s.p
  rw [takeInterrupt_mem]
  exact ⟨hT.trans (push_read h h0 s.t), hlow, hhigh⟩

end

/-! ### Returns undo calls and interrupt entries -/

/-- Settles O52: the three bytes read back are those the entry stored. -/
theorem rtiUndoesInterrupt : Obligations.RtiUndoesInterrupt := by
  intro s u n j0 j1 j2 hinv h0 h1 h2 h01 h02 h12 hsp hu0 hu1 hu2 hkept
  obtain ⟨hT, hlow, hhigh⟩ := takeInterrupt_read n hinv h0 h1 h2 h01 h02 h12
  rw [takeInterrupt_sp] at hsp
  have hsp1 : u.sp + 1 = s.sp - 2 := by bv_omega
  have hsp2 : u.sp + 2 = s.sp - 1 := by bv_omega
  have hsp3 : u.sp + 3 = s.sp := by bv_omega
  rw [exec_rti_of_readCell (s := s) (w := s.p) (hsp1 ▸ hu2) (hsp2 ▸ hu1) (hsp3 ▸ hu0) ((hkept j2 (by simp)).trans hhigh)
    ((hkept j1 (by simp)).trans hlow) ((hkept j0 (by simp)).trans hT), hsp3]

/-- Settles O53: each of the calls pushes P, and the two bytes read back are those it stored. -/
theorem rtnUndoesCall : Obligations.RtnUndoesCall := by
  intro call s t u j0 j1 hinv hcall hexec h0 h1 h01 hsp hu0 hu1 hkept0 hkept1
  have hpushed : PushedP s t := by
    obtain ⟨i, j, rfl⟩ | ⟨i, rfl⟩ | ⟨f, hf, rfl⟩ | ⟨i, f, hf, rfl, hmade⟩ := hcall
    · exact pushedP_of_sjp hexec
    · exact pushedP_of_vectorCallIf hexec
    · exact pushedP_of_vej hf hexec
    · exact pushedP_of_vectorIf hf hexec hmade
  obtain ⟨hlow, hhigh⟩ := push16_read hinv h0 h1 h01 s.p
  rw [hpushed.sp] at hsp
  rw [hpushed.mem] at hkept0 hkept1
  have hsp1 : u.sp + 1 = s.sp - 1 := by bv_omega
  have hsp2 : u.sp + 2 = s.sp := by bv_omega
  rw [exec_rtn_of_readCell (hsp1 ▸ hu1) (hsp2 ▸ hu0) (hkept1.trans hhigh) (hkept0.trans hlow), hsp2]

end Sys2Proof.Machine
end

section
/-! PROOFS. Stops (60_exceptions.md R300): every instruction completes, but a vector call that is made with an operand
the manual does not allow. -/

namespace Sys2Proof.Machine

/-- What an instruction is: a vector call on some condition with the offset it carries, or one that completes. -/
theorem exec_cases (i : Instr) (s : State) :
    (∃ v c, i.vectorOffset? = some v ∧ exec i s = vectorCallIf c v s) ∨
    (i.vectorOffset? = none ∧ ∃ t, exec i s = .next t) := by
  cases i with
  | vmj v => exact .inl ⟨v, true, rfl, rfl⟩
  | vcs _ | vcr _ | vhs _ | vhr _ | vzs _ | vzr _ | vvs _ => exact .inl ⟨_, _, rfl, rfl⟩
  | _ => exact .inr ⟨rfl, _, rfl⟩

/-- A vector call on a condition completes, or stops on an operand that is not allowed. -/
theorem vectorCallIf_cases (c : Bool) (v : Byte) (s : State) :
    (∃ t, vectorCallIf c v s = .next t) ∨
    (vectorOperandOk v = false ∧ vectorCallIf c v s = .fault (.reservedOperand v)) := by
  cases c with
  | false => exact .inl ⟨s, vectorCallIf_false v s⟩
  | true =>
    by_cases hv : v.toNat % 2 = 0 ∧ v.toNat ≤ 0xF6
    · exact .inl ⟨_, vectorCallIf_true_of_allowed s hv⟩
    · exact .inr ⟨Bool.eq_false_iff.mpr (mt vectorOperandOk_iff.mp hv), vectorCallIf_true_of_reserved s hv⟩

/-- An instruction that carries a vector offset is well-formed where the offset is allowed. -/
theorem wellFormed_of_vectorOffset {i : Instr} {v : Byte} (h : i.vectorOffset? = some v) :
    i.wellFormed = vectorOperandOk v := by
  rw [Instr.wellFormed, h]
  rfl

/-- An instruction completes, or stops on the operand for which it is not well-formed. -/
theorem exec_outcome (i : Instr) (s : State) :
    (∃ t, exec i s = .next t) ∨
    ∃ v, i.vectorOffset? = some v ∧ i.wellFormed = false ∧ exec i s = .fault (.reservedOperand v) := by
  obtain ⟨v, c, hv, hexec⟩ | ⟨-, hnext⟩ := exec_cases i s
  · rw [hexec]
    obtain hnext | ⟨hbad, hfault⟩ := vectorCallIf_cases c v s
    · exact .inl hnext
    · exact .inr ⟨v, hv, (wellFormed_of_vectorOffset hv).trans hbad, hfault⟩
  · exact .inl hnext

/-- Settles O39: of the two outcomes of an instruction the stop excludes that it is well-formed, and neither is a
refusal. -/
theorem wellFormedCompletes : Obligations.WellFormedCompletes := by
  intro i s
  obtain ⟨t, hnext⟩ | ⟨v, hv, hbad, hfault⟩ := exec_outcome i s
  · rw [hnext]
    exact ⟨fun _ => ⟨t, rfl⟩, nofun, nofun⟩
  · rw [hfault]
    refine ⟨fun hgood => ?_, fun e he => ?_, nofun⟩
    · exact absurd (hgood.symm.trans hbad) nofun
    · cases he
      exact ⟨v, hv, hbad, rfl⟩

end Sys2Proof.Machine
end

section
/-! PROOFS. The timer (60_exceptions.md R320): one step as a number, the step of the timer's move, that the timer's turn
always comes, and the 511 values it visits. -/

namespace Sys2Proof.Machine

/-! ### One step -/

/-- The shift with feedback as a number: bit 0 XOR bit 4 is the parity of TM and TM / 16 together. -/
theorem nextTimer_toNat (tm : TimerWord) :
    (nextTimer tm).toNat = tm.toNat / 2 + 256 * ((tm.toNat + tm.toNat / 16) % 2) := by
  have htm := tm.isLt
  have hshift : (tm.extractLsb' 1 8).toNat = tm.toNat / 2 := by
    rw [BitVec.extractLsb'_toNat, Nat.shiftRight_eq_div_pow]
    omega
  have hbit : (BitVec.ofBool (tm.getLsbD 0 ^^ tm.getLsbD 4)).toNat = (tm.toNat + tm.toNat / 16) % 2 := by
    have hparity : (tm.toNat + tm.toNat / 16) % 2 = (tm.toNat / 2 ^ 0 % 2 + tm.toNat / 2 ^ 4 % 2) % 2 := by omega
    rw [hparity, BitVec.toNat_ofBool, BitVec.getLsbD, BitVec.getLsbD, Nat.testBit_eq_decide_div_mod_eq,
      Nat.testBit_eq_decide_div_mod_eq]
    obtain h0 | h0 := Nat.mod_two_eq_zero_or_one (tm.toNat / 2 ^ 0) <;>
      obtain h4 | h4 := Nat.mod_two_eq_zero_or_one (tm.toNat / 2 ^ 4) <;> rw [h0, h4] <;> rfl
  rw [nextTimer, append_eq_ofNat, BitVec.toNat_ofNat, hbit, hshift]
  omega

/-- 000H stays, and no other value comes to it. -/
theorem nextTimer_eq_zero_iff {tm : TimerWord} : nextTimer tm = 0#9 ↔ tm = 0#9 := by
  refine ⟨fun h => BitVec.eq_of_toNat_eq ?_, fun h => by rw [h]; rfl⟩
  have hzero : tm.toNat / 2 + 256 * ((tm.toNat + tm.toNat / 16) % 2) = 0 := by rw [← nextTimer_toNat, h]; rfl
  have hhigh : tm.toNat / 2 = 0 := Nat.eq_zero_of_add_eq_zero_right hzero
  change tm.toNat = 0
  omega

/-- Settles O55: the timer's move is `State.timerStep`, on the machine with the turn taken. -/
theorem timerStep : Obligations.TimerStep := by
  intro s h
  refine ⟨nextTimer s.tm, ?_, nextTimer_toNat s.tm, nextTimer_eq_zero_iff.mpr⟩
  rw [← popMove_tm s, ← popMove_ir1 s]
  exact step_of_hostMove h nofun rfl

/-! ### The timer's turn comes -/

section
variable {s t : State}

theorem cpuStep_turn (h : s.cpuStep = .next t) : t.script = s.script ∧ t.untilTimer = s.untilTimer := by
  obtain ⟨-, rfl⟩ | ⟨n, -, -, rfl⟩ | ⟨-, -, -, rfl⟩ | ⟨-, -, -, i, -, hexec⟩ := cpuStep_cases h
  · exact ⟨rfl, rfl⟩
  · simp [State.takeInterrupt]
  · unfold State.stayHalted
    split <;> exact ⟨rfl, rfl⟩
  · have hframe := (fetchInstr_frame s).trans (exec_frame hexec)
    exact ⟨hframe.surroundings.script, hframe.surroundings.untilTimer⟩

theorem hostMove_untilTimer {m : Move} (h : s.hostMove m = some t) : t.untilTimer = s.untilTimer := by
  cases m with
  | cpu | busMaster => cases h
  | reset => cases h; simp [State.resetCpu]
  | ioc u e => cases h; cases e <;> rfl
  | _ => cases h; rfl

/-- A step takes the turn, and changes nothing more of whose turn comes. -/
theorem step_turn (h : step s = .next t) : t.script = s.popMove.script ∧ t.untilTimer = s.popMove.untilTimer := by
  obtain ⟨-, hcpu⟩ | ⟨-, hhost⟩ := step_cases h
  · exact cpuStep_turn hcpu
  · exact ⟨hostMove_script hhost, hostMove_untilTimer hhost⟩

/-- Within the script's moves and the CPU steps left the timer's turn comes, or the machine stops on the way. -/
theorem timer_comes {left : Nat} (hleft : s.script.length + s.untilTimer = left) :
    ∃ (n : Nat) (t : State), n ≤ left ∧ stepsTo n s t ∧ (t.nextMove .timer ∨ ∀ u, step t ≠ .next u) := by
  induction left generalizing s with
  | zero =>
    refine ⟨0, s, le_rfl, rfl, .inl (by_contra fun hturn => ?_)⟩
    have := popMove_left s hturn
    omega
  | succ left ih =>
    by_cases hturn : s.nextMove .timer
    · exact ⟨0, s, Nat.zero_le _, rfl, .inl hturn⟩
    by_cases hstop : ∀ u, step s ≠ .next u
    · exact ⟨0, s, Nat.zero_le _, rfl, .inr hstop⟩
    obtain ⟨u, hu⟩ := not_forall_not.mp hstop
    have hu_left : u.script.length + u.untilTimer = left := by
      obtain ⟨hscript, huntil⟩ := step_turn hu
      have := popMove_left s hturn
      rw [hscript, huntil]
      omega
    obtain ⟨n, t, hn, hsteps, hend⟩ := ih hu_left
    exact ⟨n + 1, t, Nat.succ_le_succ hn, ⟨u, hu, hsteps⟩, hend⟩

end

/-! ### The period -/

theorem timerAfter_eq_iterate (n : Nat) (tm : TimerWord) : timerAfter n tm = nextTimer^[n] tm := by
  induction n generalizing tm with
  | zero => rfl
  | succ n ih => exact ih (nextTimer tm)

theorem iterate_nextTimer_eq_zero_iff {n : Nat} {tm : TimerWord} : nextTimer^[n] tm = 0#9 ↔ tm = 0#9 := by
  induction n generalizing tm with
  | zero => rfl
  | succ n ih => rw [Function.iterate_succ_apply, ih, nextTimer_eq_zero_iff]

/-- Leaps of 73 steps lead from 001H over six other values back to it: 511 = 73 * 7. -/
theorem timerAfter_73 : [0x001#9, 0x16A#9, 0x18A#9, 0x16B#9, 0x0E0#9, 0x0E1#9, 0x18B#9].map (timerAfter 73) =
    [0x16A#9, 0x18A#9, 0x16B#9, 0x0E0#9, 0x0E1#9, 0x18B#9, 0x001#9] := by
  decide +kernel

theorem isPeriodicPt_one : Function.IsPeriodicPt nextTimer 511 0x001#9 := by
  have hleaps := timerAfter_73
  simp only [List.map_cons, List.map_nil, List.cons.injEq, timerAfter_eq_iterate] at hleaps
  have hback : (nextTimer^[73])^[7] 0x001#9 = 0x001#9 := by
    generalize nextTimer^[73] = leap at hleaps
    obtain ⟨h1, h2, h3, h4, h5, h6, h7, -⟩ := hleaps
    simp only [Function.iterate_succ_apply, Function.iterate_zero_apply, h1, h2, h3, h4, h5, h6, h7]
  rw [← Function.iterate_mul] at hback
  exact hback

/-- The period of 001H is 511 and not one of its divisors 1, 7 and 73. -/
theorem minimalPeriod_one : Function.minimalPeriod nextTimer 0x001#9 = 511 := by
  have hnot {n : Nat} (h : timerAfter n 0x001#9 ≠ 0x001#9) : ¬ Function.minimalPeriod nextTimer 0x001#9 ∣ n := by
    rw [timerAfter_eq_iterate] at h
    exact mt Function.isPeriodicPt_iff_minimalPeriod_dvd.mpr h
  have hseven : timerAfter 7 0x001#9 ≠ 0x001#9 := by decide
  have hleap : timerAfter 73 0x001#9 ≠ 0x001#9 := by
    rw [(List.cons.inj timerAfter_73).1]
    decide
  have hdivisor := Nat.mem_divisors.mpr ⟨isPeriodicPt_one.minimalPeriod_dvd, (by decide : 511 ≠ 0)⟩
  simp only [Nat.divisors_ofNat, Finset.mem_insert, Finset.mem_singleton] at hdivisor
  obtain h | h | h | h := hdivisor
  · exact absurd (h.dvd.trans (one_dvd 7)) (hnot hseven)
  · exact absurd h.dvd (hnot hseven)
  · exact absurd h.dvd (hnot hleap)
  · exact h

/-- A value of period 511 comes to every value but 000H: the 511 values it visits are different numbers from 1 to 511. -/
theorem iterate_nextTimer_reaches {tm goal : TimerWord} (hperiod : Function.minimalPeriod nextTimer tm = 511)
    (htm : tm ≠ 0#9) (hgoal : goal ≠ 0#9) : ∃ n < 511, nextTimer^[n] tm = goal := by
  have hrange (w : TimerWord) (hw : w ≠ 0#9) : w.toNat ∈ Finset.Icc 1 511 := by
    have hlt := w.isLt
    have hpos : w.toNat ≠ 0 := fun e => hw (BitVec.eq_of_toNat_eq e)
    exact Finset.mem_Icc.mpr ⟨by omega, by omega⟩
  have hinto : Set.MapsTo (fun n => (nextTimer^[n] tm).toNat) (Finset.range 511) (Finset.Icc 1 511) :=
    fun n _ => hrange _ (mt iterate_nextTimer_eq_zero_iff.mp htm)
  have hinj : Set.InjOn (fun n => (nextTimer^[n] tm).toNat) (Finset.range 511) := by
    intro m hm n hn e
    refine Function.iterate_injOn_Iio_minimalPeriod (f := nextTimer) (x := tm) ?_ ?_ (BitVec.eq_of_toNat_eq e)
    · rw [hperiod]; exact Finset.mem_range.mp hm
    · rw [hperiod]; exact Finset.mem_range.mp hn
  obtain ⟨n, hn, e⟩ := Finset.surjOn_of_injOn_of_card_le _ hinto hinj (by simp) (hrange goal hgoal)
  exact ⟨n, Finset.mem_range.mp hn, BitVec.eq_of_toNat_eq e⟩

/-- Every value but 000H is on the cycle of 001H, so it has its period. -/
theorem minimalPeriod_nextTimer {tm : TimerWord} (h : tm ≠ 0#9) : Function.minimalPeriod nextTimer tm = 511 := by
  obtain ⟨n, -, rfl⟩ := iterate_nextTimer_reaches minimalPeriod_one (by decide) h
  rw [Function.minimalPeriod_apply_iterate ⟨511, by decide, isPeriodicPt_one⟩, minimalPeriod_one]

/-- Settles O56: the turn by `timer_comes`, the cycle by its period, and 000H is a fixed point. -/
theorem timerPeriod : Obligations.TimerPeriod := by
  refine ⟨fun s => timer_comes rfl, fun tm htm => ?_, fun n => ?_⟩
  all_goals simp only [timerAfter_eq_iterate]
  · have hperiod := minimalPeriod_nextTimer htm
    refine ⟨hperiod ▸ Function.iterate_minimalPeriod, fun n hpos hlt => ?_, fun goal hgoal =>
      iterate_nextTimer_reaches hperiod htm hgoal⟩
    exact Function.not_isPeriodicPt_of_pos_of_lt_minimalPeriod hpos.ne' (hperiod ▸ hlt)
  · exact iterate_nextTimer_eq_zero_iff.mpr rfl

end Sys2Proof.Machine
end

section
/-! PROOFS. The I/O port controllers (60_exceptions.md R330 to R339): the registers by offset, RESET, and what sets the
request flags, the line to MI and IR2. -/

namespace Sys2Proof.Machine

/-! ### The registers -/

section
variable (d : Ioc) (v free low : Byte)

/-- Below bit `n` the free bits are replaced. -/
theorem freeAbove_mod {n : Nat} (hn : n ≤ 8) : (freeAbove free low n).toNat % 2 ^ n = low.toNat % 2 ^ n := by
  apply Nat.eq_of_testBit_eq
  intro k
  rw [Nat.testBit_mod_two_pow, Nat.testBit_mod_two_pow]
  by_cases hk : k < n
  · have hbit : (freeAbove free low n).getLsbD k = low.getLsbD k := by
      have hk8 : k < 8 := by omega
      simp [freeAbove, hk, hk8]
    simp only [hk, decide_true, Bool.true_and]
    exact hbit
  · simp [hk]

/-- The four flags of IF as a number. -/
theorem ifByte_toNat : d.ifByte.toNat = d.if0.toNat + 2 * d.if1.toNat + 4 * d.rd.toNat + 8 * d.td.toNat := by
  unfold Ioc.ifByte
  simp only [append_eq_ofNat, BitVec.toNat_ofNat, BitVec.toNat_ofBool]
  cases d.if0 <;> cases d.if1 <;> cases d.rd <;> cases d.td <;> rfl

/-- A write at an offset that R332 lists nothing for is ignored. -/
theorem write_unlisted {n : BitVec 4} (h : n.toNat ≤ 3 ∨ n.toNat = 5) : d.write n v = d := by
  unfold Ioc.write
  split <;> first | omega | rfl

/-- A read at an offset that R332 lists nothing for gives any byte. -/
theorem read_unlisted {n : BitVec 4} (h : n.toNat ≤ 4 ∨ n.toNat = 6) : d.read n free = (free, d) := by
  unfold Ioc.read
  split <;> first | omega | rfl

end

/-! ### The controllers in the turn of an event -/

section
variable {s : State} {u : IocUnit} {m : IocMove} (h : s.nextMove (.ioc u m))
include h

/-- An event at a controller's pins finds the controllers as they were. -/
theorem popMove_iocs_of_iocMove : s.popMove.iocs = s.iocs :=
  (popMove_event s (fun e => nomatch h.symm.trans e) (fun e => nomatch h.symm.trans e)).1

theorem popMove_ioc_of_iocMove (w : IocUnit) : s.popMove.ioc w = s.ioc w :=
  congrArg (Iocs.get · w) (popMove_iocs_of_iocMove h)

end

/-- Settles O58: each access is one row of `Ioc.read` or `Ioc.write`, RESET is `Ioc.resetRegs`. -/
theorem controllerRegisters : Obligations.ControllerRegisters := by
  refine ⟨fun d v => ?writes, fun d free => ?reads, fun s u h => ?reset⟩
  case writes =>
    exact ⟨rfl, rfl, rfl, rfl, rfl, rfl, rfl, rfl, rfl, rfl, rfl, fun _ => write_unlisted d v⟩
  case reads =>
    refine ⟨rfl, ⟨freeAbove_mod free d.f (by decide), rfl⟩, rfl, rfl, ⟨?msk, rfl⟩, ⟨?flags, rfl⟩, rfl, rfl,
      ⟨d.portA, rfl, fun _ => portLevels_getLsbD _ _ _⟩, ⟨d.portB, rfl, fun _ => portLevels_getLsbD _ _ _⟩,
      fun _ => read_unlisted d free⟩
    case msk =>
      refine (freeAbove_mod free _ (n := 4) (by decide)).trans ?_
      have := d.msk.isLt
      rw [BitVec.toNat_setWidth]
      omega
    case flags =>
      refine (freeAbove_mod free _ (n := 4) (by decide)).trans ?_
      rw [ifByte_toNat]
      have h0 := d.if0.toNat_lt
      have h1 := d.if1.toNat_lt
      have h2 := d.rd.toNat_lt
      have h3 := d.td.toNat_lt
      omega
  case reset =>
    refine ⟨(s.ioc u).resetRegs, ?_, rfl, rfl⟩
    rw [← popMove_iocs_of_iocMove h, ← popMove_ioc_of_iocMove h u]
    exact step_of_hostMove h nofun rfl

/-! ### The line to MI -/

/-- INT is high when a flag and its mask bit are. -/
theorem int_iff (d : Ioc) : d.int = true ↔
    (d.if0 = true ∧ d.msk.getLsbD 0 = true) ∨ (d.if1 = true ∧ d.msk.getLsbD 1 = true) ∨
    (d.rd = true ∧ d.msk.getLsbD 2 = true) ∨ (d.td = true ∧ d.msk.getLsbD 3 = true) := by
  simp only [Ioc.int, Bool.or_eq_true, Bool.and_eq_true, or_assoc]

theorem miLine_iff (s : State) : s.miLine = true ↔ ∃ u ∈ s.board.intToMi, (s.ioc u).int = true := List.any_eq_true

/-- ATP changes OPC alone in the controllers, so neither the line to MI nor IR2. -/
theorem atp_requests {s t : State} (h : atp s = .next t) : t.ir2 = s.ir2 ∧ t.miLine = s.miLine := by
  rw [atp_eq] at h
  cases h
  exact ⟨latchPorts_ir2 _ _, latchPorts_miLine _ _⟩

/-! ### Events at a controller's pins -/

/-- What an event but RESET makes of a controller, the edge of PB7 apart (R336). -/
def Ioc.event (d : Ioc) (free : Byte) : IocMove → Ioc
  | .pins pa pb irq => { d with pa := pa, pb := pb, irq := irq, if0 := d.if0 || (!d.irq && irq) }
  | .received v => d.receive v free
  | .sent => { d with td := true }
  | .divider => { d with divider := d.divider + 1 }
  | .reset => d

/-- Every event but RESET is a change of the one controller that `setIoc` notices. -/
theorem iocMove_eq (s : State) (u : IocUnit) {m : IocMove} (hm : m ≠ .reset) :
    s.iocMove u m = s.setIoc u ((s.ioc u).event (Config.freeByte s.draws) m) := by
  cases m with
  | reset => exact absurd rfl hm
  | _ => rfl

theorem event_msk (d : Ioc) (free : Byte) (m : IocMove) : (d.event free m).msk = d.msk := by cases m <;> rfl

/-- In the input mode PB7 is at the level driven from outside. -/
theorem portB_of_pb7Input {d : Ioc} (h : d.ddb.getLsbD 7 = false) : d.portB.getLsbD 7 = d.pb.getLsbD 7 := by
  rw [Ioc.portB, portLevels_getLsbD _ _ _ (by decide), h]
  rfl

/-- A rise of PB7 in the input mode sets IF1. -/
theorem pb7Edge_if1_of_rise {old new : Ioc} (free : Bool) (hold : old.ddb.getLsbD 7 = false)
    (hnew : new.ddb.getLsbD 7 = false) (hlow : old.pb.getLsbD 7 = false) (hhigh : new.pb.getLsbD 7 = true) :
    (old.pb7Edge new free).if1 = true := by
  simp only [Ioc.pb7Edge, Ioc.pb7Input, portB_of_pb7Input hold, portB_of_pb7Input hnew, hold, hnew, hlow, hhigh]
  exact Bool.or_true _

/-- Settles O59: bus cycles and events change controllers by `setIoc`, which notices the rise of the line; each event is
its row of `Ioc.event`. -/
theorem controllerRequests : Obligations.ControllerRequests := by
  refine ⟨int_iff, miLine_iff, fun s sp a v => ⟨busRead_ir2 s sp a, busWrite_ir2 s sp a v⟩,
    fun s => ⟨_, rfl, atp_requests rfl⟩, fun s u m h hm => ?_⟩
  have hstep : step s = .next (s.popMove.setIoc u ((s.popMove.ioc u).event (Config.freeByte s.popMove.draws) m)) :=
    step_of_hostMove h nofun (congrArg some (iocMove_eq _ u hm))
  rw [popMove_ioc_of_iocMove h u] at hstep
  generalize Config.freeByte s.popMove.draws = free at hstep
  have hioc : (s.popMove.setIoc u ((s.ioc u).event free m)).ioc u =
      (s.ioc u).pb7Edge ((s.ioc u).event free m) (Config.freeBit s.popMove.draws) := by
    rw [ioc_setIoc, if_pos rfl, popMove_ioc_of_iocMove h u]
  refine ⟨_, hstep, ?ir2, by simp, by simp, ?msk, rfl, fun w hw => ?other, ?received, ?sent, ?divider, ?pins⟩
  case ir2 => rw [setIoc_ir2, popMove_ir2, popMove_miLine]
  case other => rw [ioc_setIoc, if_neg hw, popMove_ioc_of_iocMove h w]
  all_goals rw [hioc]
  case msk => exact event_msk _ _ _
  case received =>
    rintro v rfl
    exact ⟨rfl, fun hrd => by simp [Ioc.pb7Edge, Ioc.event, Ioc.receive, hrd]⟩
  case sent =>
    rintro rfl
    rfl
  case divider =>
    rintro rfl
    rfl
  case pins =>
    rintro pa pb irq rfl
    exact ⟨rfl, rfl, rfl, fun hlow hhigh => by simp [Ioc.pb7Edge, Ioc.event, hlow, hhigh],
      fun hmode hlow hhigh => pb7Edge_if1_of_rise _ hmode hmode hlow hhigh⟩

end Sys2Proof.Machine
end
